-- ==== Sys2Proof/Word.lean ====
section
/-!
DEFINITION. The words of the link and the widths the manual gives its fields, and the map over a vector that the kernel
evaluates.
-/
namespace Sys2Proof

/-- One byte of the link (R171). -/
abbrev Byte := BitVec 8
/-- A field of two bytes, little-endian on the link (00_scope.md section 4.5). -/
abbrev Half := BitVec 16
/-- A field of four bytes: a period or a Time Base reading (R61). -/
abbrev Word := BitVec 32

/-- The vector of the images, by structural recursion. -/
def mapVector {α β : Type} {n : Nat} (f : α → β) (v : Vector α n) : Vector β n := ⟨⟨v.toList.map f⟩, by simp⟩

end Sys2Proof
end

