-- ==== Sys2Proof/Syntax.lean ====
section
/-!
DEFINITION. The commands: one constructor of `Instr` for each row of spec/opcode_table.json. The rows carry no bit
encoding; their operands are the fields the rules give each request, raw as they stand in the request body (the owning
blocks check them), and what each event names (a zone, a line, a generator, a level).
-/
namespace Sys2Proof

/-- The template header record, Table 11-3. -/
structure TemplateHeader where
  carrierHigh : Byte
  carrierLow : Byte
  zeroMark : Half
  zeroSpace : Half
  oneMark : Half
  oneSpace : Half
  leadPeriod : Word
  repeatPeriod : Word
  minRepeats : Byte
  holdLimit : Half
  deriving DecidableEq, Repr

/-- The element record, Table 11-4. -/
structure ElementRecord where
  kind : Byte
  count : Byte
  duration : Half
  deriving DecidableEq, Repr

/-- The job submit record, Table 11-5. An override of 0000h is absent (R178). -/
structure JobSubmitRecord where
  zone : Byte
  tag : Half
  template : Byte
  mode : Byte
  repeats : Byte
  override : Half
  payloadLength : Byte
  payload : List Byte
  deriving DecidableEq, Repr

/-- The binding carried by TRIGGER BIND, in the order R137 gives. -/
structure BindingRecord where
  zone : Byte
  template : Byte
  mode : Byte
  repeats : Byte
  tag : Half
  debounce : Half
  payloadLength : Byte
  payload : List Byte
  deriving DecidableEq, Repr

/-- One source entry of NOTICE SETUP (R169). A priority or mask of FFh is absent (R178). -/
structure SourceEntry where
  source : Byte
  priority : Byte
  mask : Byte
  deriving DecidableEq, Repr

/-- What the external driver stage presents at ZSENSEn, and a zone's current condition (R115, R116). -/
inductive Condition where
  | normal
  | openLoad
  | overload
  deriving DecidableEq, Repr

/-- The two inputs of the envelope former that have rising and falling edges: the CAPC pin, and the loopback
waveform of the zone the session names (R145, R146). -/
inductive EdgeInput where
  | capc
  | loopback
  deriving DecidableEq, Repr

/-- Whose high half ends at a HIGH_HALF_END: a generator's, or one that a zone's Emitter Driver is completing (R70). -/
inductive HalfOwner where
  | generator (g : Fin 4)
  | driver (z : Fin 8)
  deriving DecidableEq, Repr

/-- The requests of the Message Port with their fields as they stand in the request body. -/
inductive Request where
  | templateBegin (index : Byte) (header : TemplateHeader)
  | templateAppend (selector : Byte) (elements : List ElementRecord)
  | templateCommit
  | templateAbandon
  | templateDelete (index : Byte)
  | templateQuery (index offset : Byte)
  | libraryQuery
  | zoneSetup (zone enabled bands group dark : Byte)
  | zoneQuery (zone : Byte)
  | zoneReset (zone : Byte)
  | faultClear (zone : Byte)
  | jobSubmit (record : JobSubmitRecord)
  | jobRelease (zone : Byte) (tag : Half)
  | jobCancel (zone : Byte) (tag : Half) (mode : Byte)
  | zoneFlush (zone action : Byte)
  | completionTake (zone : Byte)
  | slotPlan (length : Half) (masks : Vector Half 8)
  | slotQuery (selector : Byte)
  | carrierQuery
  | timeQuery
  | triggerBind (line : Byte) (binding : Option BindingRecord)
  | triggerQuery (line : Byte)
  | captureArm (source zone : Byte) (startTimeout endGap maxEntries : Half)
  | captureStop
  | captureQuery
  | captureRead (offset : Half) (count : Byte)
  | noticeFetch (source : Option Byte)
  | noticePeek
  | noticeAck (source : Option Byte)
  | noticeSetup (threshold : Byte) (entries : List SourceEntry)
  | identify
  | engineReset
  deriving DecidableEq, Repr

/-- What RXD shows of one character (R171, R174; log 13): its start bit comes, or its stop bit ends. -/
inductive CharEdge where
  | starts
  | ends
  deriving DecidableEq, Repr

/-- One constructor per row of spec/opcode_table.json. A request row carries the sequence number of its frame
(R172); an event row carries what the event names. -/
inductive Instr where
  /-- TEMPLATE_BEGIN, request 10h (R10). -/
  | templateBegin (seq index : Byte) (header : TemplateHeader)
  /-- TEMPLATE_APPEND, request 11h (R11). -/
  | templateAppend (seq selector : Byte) (elements : List ElementRecord)
  /-- TEMPLATE_COMMIT, request 12h (R13). -/
  | templateCommit (seq : Byte)
  /-- TEMPLATE_ABANDON, request 13h (R12). -/
  | templateAbandon (seq : Byte)
  /-- TEMPLATE_DELETE, request 14h (R17). -/
  | templateDelete (seq index : Byte)
  /-- TEMPLATE_QUERY, request 15h (R18). -/
  | templateQuery (seq index offset : Byte)
  /-- LIBRARY_QUERY, request 16h (R19). -/
  | libraryQuery (seq : Byte)
  /-- ZONE_SETUP, request 20h (R29); FFh is an absent field (R178). -/
  | zoneSetup (seq zone enabled bands group dark : Byte)
  /-- ZONE_QUERY, request 21h (R42). -/
  | zoneQuery (seq zone : Byte)
  /-- ZONE_RESET, request 22h (R122). -/
  | zoneReset (seq zone : Byte)
  /-- FAULT_CLEAR, request 23h (R120). -/
  | faultClear (seq zone : Byte)
  /-- JOB_SUBMIT, request 28h (R33). -/
  | jobSubmit (seq : Byte) (record : JobSubmitRecord)
  /-- JOB_RELEASE, request 29h (R97). -/
  | jobRelease (seq zone : Byte) (tag : Half)
  /-- JOB_CANCEL, request 2Ah (R104). -/
  | jobCancel (seq zone : Byte) (tag : Half) (mode : Byte)
  /-- ZONE_FLUSH, request 2Bh (R112). -/
  | zoneFlush (seq zone action : Byte)
  /-- COMPLETION_TAKE, request 2Ch (R40). -/
  | completionTake (seq zone : Byte)
  /-- SLOT_PLAN, request 30h (R48). -/
  | slotPlan (seq : Byte) (length : Half) (masks : Vector Half 8)
  /-- SLOT_QUERY, request 31h (R59). -/
  | slotQuery (seq selector : Byte)
  /-- CARRIER_QUERY, request 34h (R73). -/
  | carrierQuery (seq : Byte)
  /-- TIME_QUERY, request 35h (R64). -/
  | timeQuery (seq : Byte)
  /-- TRIGGER_BIND, request 38h (R137); no binding asks for the line to be unbound. -/
  | triggerBind (seq line : Byte) (binding : Option BindingRecord)
  /-- TRIGGER_QUERY, request 39h (R139). -/
  | triggerQuery (seq line : Byte)
  /-- CAPTURE_ARM, request 40h (R143). -/
  | captureArm (seq source zone : Byte) (startTimeout endGap maxEntries : Half)
  /-- CAPTURE_STOP, request 41h (R151). -/
  | captureStop (seq : Byte)
  /-- CAPTURE_QUERY, request 42h (R152). -/
  | captureQuery (seq : Byte)
  /-- CAPTURE_READ, request 43h (R153). -/
  | captureRead (seq : Byte) (offset : Half) (count : Byte)
  /-- NOTICE_FETCH, request 48h (R163, R164). -/
  | noticeFetch (seq : Byte) (source : Option Byte)
  /-- NOTICE_PEEK, request 49h (R167). -/
  | noticePeek (seq : Byte)
  /-- NOTICE_ACK, request 4Ah (R168). -/
  | noticeAck (seq : Byte) (source : Option Byte)
  /-- NOTICE_SETUP, request 4Bh (R169); FFh is an absent field (R178). -/
  | noticeSetup (seq threshold : Byte) (entries : List SourceEntry)
  /-- IDENTIFY, request 01h (R180). -/
  | identify (seq : Byte)
  /-- ENGINE_RESET, request 02h (R182). -/
  | engineReset (seq : Byte)
  /-- RECEIVE_BYTE (R173): the character of this byte begins on RXD, or has been received (log 13). -/
  | receiveByte (data : Byte) (edge : CharEdge)
  /-- GAP_TIMER_EXPIRY (R174). -/
  | gapTimerExpiry
  /-- REPLY_SENT (R177). -/
  | replySent
  /-- SUPPLY_RISE (R181). -/
  | supplyRise
  /-- RESET_N_LOW (R181). -/
  | resetNLow
  /-- RESET_N_HIGH (R181). -/
  | resetNHigh
  /-- REQUEST_RESET_EXPIRY (R181). -/
  | requestResetExpiry
  /-- SLOT_BOUNDARY (R45). -/
  | slotBoundary
  /-- PHASE_END (R81) of the phase the zone is playing. -/
  | phaseEnd (z : Fin 8)
  /-- FRAME_TIMER_EXPIRY (R89) of a zone in INTERVAL. -/
  | frameTimerExpiry (z : Fin 8)
  /-- QUIET_TIME_EXPIRY (R123) of a zone in RESETTING. -/
  | quietTimeExpiry (z : Fin 8)
  /-- DRIVER_FAULT (R117, R118): the driver stage of the zone now presents this condition at ZSENSEn. OPEN and
  OVERLOAD while sampling are the row's fault; NORMAL ends an earlier report (R116). -/
  | driverFault (z : Fin 8) (report : Condition)
  /-- TRIG_PIN_CHANGE (R129): the level of TRIGn becomes `level`. -/
  | trigPinChange (line : Fin 4) (level : Bool)
  /-- DEBOUNCE_EXPIRY (R129). -/
  | debounceExpiry (line : Fin 4)
  /-- CAPD_EDGE (R144): the level of CAPD becomes `level`. -/
  | capdEdge (level : Bool)
  /-- CAPTURE_RISING_EDGE (R145). -/
  | captureRisingEdge (input : EdgeInput)
  /-- CAPTURE_FALLING_EDGE (R145). -/
  | captureFallingEdge (input : EdgeInput)
  /-- MARK_END_TIMEOUT (R145). -/
  | markEndTimeout
  /-- START_TIMEOUT_EXPIRY (R147). -/
  | startTimeoutExpiry
  /-- END_GAP_EXPIRY (R148). -/
  | endGapExpiry
  /-- STUCK_MARK (R147). -/
  | stuckMark
  /-- SUPPLY_STABLE (R181). -/
  | supplyStable
  /-- SUPPLY_FAILURE (R182). -/
  | supplyFailure
  /-- HIGH_HALF_START (R84, R66) of a generator. -/
  | highHalfStart (g : Fin 4)
  /-- HIGH_HALF_END (R70, R84). -/
  | highHalfEnd (owner : HalfOwner)
  /-- INITIAL_SPACE_RECOGNISED (R145). -/
  | initialSpaceRecognised
  deriving DecidableEq, Repr

end Sys2Proof
end

