-- ==== Sys2Proof/Decode.lean ====
section
/-!
DEFINITION. The command a word of the opcode table spells. No row of spec/opcode_table.json carries bits (log 1), so no
word spells a command. The request bodies of the link are read in Machine/Layouts.lean.
-/
namespace Sys2Proof

/-- The command that a word spells by the table's bits: the table gives bits to no row (log 1). -/
def decodeTableWord (_nbits _w : Nat) : Option Instr := none

end Sys2Proof
end

