-- ==== Sys2Proof/Config.lean ====
section
/-!
DEFINITION. What the part fixes (its capacities and fixed times) and the free values, which the manual leaves open.
-/
namespace Sys2Proof.Config

/-- Carrier ticks of 125 ns in one microsecond (R2, R61). -/
abbrev ticksPerUs : Nat := 8
/-- Carrier ticks in one slot unit of 50 µs (R45). -/
abbrev ticksPerSlotUnit : Nat := 400
/-- Cells of the element pool (R6). -/
abbrev poolCells : Nat := 1536
/-- Capacity of a zone's job queue (R23). -/
abbrev queueCapacity : Nat := 8
/-- Capacity of a zone's completion list (R25). -/
abbrev completionCapacity : Nat := 4
/-- Capacity of the request buffer (R176). -/
abbrev requestCapacity : Nat := 4
/-- Most elements of a main list (R4). -/
abbrev mainCapacity : Nat := 48
/-- Most elements of a repeat list (R4). -/
abbrev repeatCapacity : Nat := 16
/-- Most frames any job starts (R95). -/
abbrev maxFrames : Nat := 4096
/-- The zone reset quiet time of 500 µs (R123), in ticks. -/
abbrev quietTicks : Nat := 4000
/-- The gap of 2,000 µs inside a frame (R174), in ticks. -/
abbrev gapTicks : Nat := 16000
/-- The REQUEST reset of 50 µs (R181), in ticks. -/
abbrev requestResetTicks : Nat := 400
/-- The window of 160 µs of the envelope former (R145), in ticks. -/
abbrev windowTicks : Nat := 1280
/-- The mark of 250,000 µs that is stuck (R147), in ticks. -/
abbrev stuckTicks : Nat := 2000000

/-- FREE VALUE (log 6). The bytes of a part of a reply whose width or coding the manual does not state: of the `n`th reply,
the part at `place`, with its value, or none where the part is absent.
No body that a proof could use: a claim holds whatever bytes these are. -/
opaque partBytes : (n place : Nat) → (value : Option Nat) → List Byte

/-- FREE VALUE (log 4). Which of several events of the part's own timers, due at one instant, is taken first. -/
opaque dueChoice : Nat → Nat

end Sys2Proof.Config
end

