-- ==== Sys2Proof/Machine/State.lean ====
section
/-!
DEFINITION. Everything the manual gives the part, as plain data, and the state right after reset. Instants are counts of
125 ns ticks since the last reset release (log 5); what the manual computes from other records (a zone's state, its
gate, ZOUTn, ATTN, a template's derived facts) is computed in Machine/Flags.lean.
-/
namespace Sys2Proof.Machine

/-! ### Statuses and causes -/

/-- The statuses of Table 11-9. -/
inductive Status where
  | ok | unknown | badLength | badField | busy | queueFull | duplicateTag | noTemplate | inUse | noSpace | incompatible
  | badPayload | zoneDisabled | notFound | notHold | already | tooLate | badState | notInService | nothingPending
  | invalidTemplate
  deriving DecidableEq, Repr

/-- The causes of an engine reset (R181). -/
inductive ResetCause where
  | power | pin | request
  deriving DecidableEq, Repr

/-- The supply: below its operating level, rising through it, or stable (R181). -/
inductive Supply where
  | below | rising | stable
  deriving DecidableEq, Repr

/-! ### Code Library (chapter 1) -/

/-- Bands of a carrier (R2). -/
inductive Band where
  | baseband | lf | hf
  deriving DecidableEq, Repr

/-- The two lists of a template (R4). -/
inductive ListName where
  | main | rep
  deriving DecidableEq, Repr

/-- An element of a template's list (R4), with the one field its kind uses. -/
inductive Element where
  | mark (duration : Nat)
  | space (duration : Nat)
  | dataNext (count : Nat)
  | dataEcho (count : Nat)
  | toggle
  deriving DecidableEq, Repr

/-- What an installed slot holds (R1); the derived facts (R5) are computed from it. -/
structure Template where
  header : TemplateHeader
  main : List Element
  rep : List Element
  deriving DecidableEq, Repr

/-- One of the 64 slots: EMPTY (no template) or INSTALLED, and its use count (R1, R7). -/
structure Slot where
  template : Option Template
  useCount : Nat
  deriving DecidableEq, Repr

/-- The contents of an OPEN staging area (R9). -/
structure Staging where
  target : Fin 64
  header : TemplateHeader
  main : List Element
  rep : List Element
  deriving DecidableEq, Repr

/-- The Code Library: slots, used cells of the pool (R6), staging area (none: CLOSED). -/
structure Library where
  slots : Vector Slot 64
  usedCells : Nat
  staging : Option Staging
  deriving DecidableEq, Repr

/-- The first check a staged template fails (R14), with its locator. -/
inductive Invalid where
  | emptyMain
  | noMark (list : ListName)
  | dataOver64 (position : Nat)
  | echoExceeds (list : ListName) (position : Nat)
  | repeatDataExceeds (position : Nat)
  | periodRange (list : ListName)
  | holdBelowMin
  deriving DecidableEq, Repr

/-! ### Zones, jobs and completions (chapters 2, 5, 7) -/

/-- A set of bands (R28). -/
structure BandSet where
  baseband : Bool
  lf : Bool
  hf : Bool
  deriving DecidableEq, Repr

/-- The class of a zone's ZCLASS strap (R28). -/
inductive StrapClass where
  | ir | wired
  deriving DecidableEq, Repr

/-- The configuration record of a zone (R28); the effective bands are computed. -/
structure ZoneConfig where
  enabled : Bool
  hostBands : BandSet
  strap : StrapClass
  group : Option (Fin 4)
  dark : Bool
  deriving DecidableEq, Repr

/-- Where a job came from (R21). -/
inductive Origin where
  | host
  | trigger (line : Fin 4)
  deriving DecidableEq, Repr

/-- The mode of a job with the field that mode has (R21): repeats, or the optional hold limit override. -/
inductive JobMode where
  | tap (repeats : Nat)
  | hold (override : Option Nat)
  deriving DecidableEq, Repr

/-- A job record (R21). -/
structure Job where
  tag : Half
  template : Fin 64
  mode : JobMode
  payload : List Bool
  origin : Origin
  released : Bool
  deriving DecidableEq, Repr

/-- The kind of a phase, and the half of a symbol (R75). -/
inductive PhaseKind where
  | mark | space
  deriving DecidableEq, Repr

/-- A phase of a frame (R75): kind, duration in µs, and the instant it started. -/
structure Phase where
  kind : PhaseKind
  duration : Nat
  start : Nat
  deriving DecidableEq, Repr

/-- Where the sequencer stands in the current list (R75). `taken` is the number of bits the DATA NEXT elements before
this position take (R5, R78; log 16). -/
structure Cursor where
  position : Nat
  bit : Nat
  half : PhaseKind
  taken : Nat
  deriving DecidableEq, Repr

/-- The play state of an active job in FRAME or INTERVAL (R75). The phase is absent in INTERVAL; the next phase is
computed from the cursor. -/
structure PlayState where
  list : ListName
  frameNumber : Nat
  cursor : Cursor
  phase : Option Phase
  deadline : Option Nat
  lastPhaseEnd : Option Nat
  deriving DecidableEq, Repr

/-- The active job of a zone (R22). No play state: the zone is WAITING (R75). -/
structure ActiveJob where
  job : Job
  framesStarted : Nat
  framesTarget : Nat
  cancelAfterFrame : Bool
  firstFrameStart : Option Word
  binding : Option (Fin 4)
  play : Option PlayState
  deriving DecidableEq, Repr

/-- Outcomes of a job (R26). -/
inductive JobOutcome where
  | done | released | limit | cancelled | fault | incompatible
  deriving DecidableEq, Repr

/-- A completion record (R26). `hold` is its mode: TAP or HOLD. -/
structure Completion where
  tag : Half
  template : Fin 64
  origin : Origin
  hold : Bool
  outcome : JobOutcome
  framesStarted : Nat
  firstFrameStart : Option Word
  endTime : Word
  deriving DecidableEq, Repr

/-- A high half that a zone's output is emitting or completing (R70, R84), with the dark setting of its job (R86). -/
structure Emission where
  start : Nat
  stop : Nat
  dark : Bool
  deriving DecidableEq, Repr

/-- The eight states of a zone (R31), a view of its records. -/
inductive ZoneState where
  | disabled | idle | stalled | waiting | frame | interval | faulted | resetting
  deriving DecidableEq, Repr

/-- One zone: Zone Controller (chapter 2) and Emitter Driver (R115). `quietEnd` is present while the quiet time runs. -/
structure Zone where
  config : ZoneConfig
  queue : List Job
  active : Option ActiveJob
  completions : List Completion
  toggles : Vector Bool 64
  quietEnd : Option Nat
  condition : Condition
  openSeen : Bool
  overloadSeen : Bool
  emission : Option Emission
  deriving DecidableEq, Repr

/-- The two kinds of driver fault (R118). -/
inductive FaultKind where
  | openLoad | overload
  deriving DecidableEq, Repr

/-! ### Start Arbiter and Carrier Pool (chapters 3, 4) -/

/-- A slot plan (R47): slot length in slot units, and a mask of the slots 0 to 15 for each zone. -/
structure SlotPlan where
  length : Nat
  masks : Vector Half 8
  deriving DecidableEq, Repr

/-- The Start Arbiter (R45 to R51). -/
structure Arbiter where
  slotIndex : Fin 16
  slotEnd : Nat
  activePlan : SlotPlan
  stagedPlan : Option SlotPlan
  waiting : List (Fin 8)
  locks : Vector (Option (Fin 8)) 4
  deriving DecidableEq, Repr

/-- A carrier setting: high and low widths in ticks (R65). -/
structure Setting where
  high : Nat
  low : Nat
  deriving DecidableEq, Repr

/-- The half a RUNNING generator is in, and when it began and ends (R66). -/
structure Wave where
  high : Bool
  start : Nat
  stop : Nat
  deriving DecidableEq, Repr

/-- A carrier generator (R65): RUNNING exactly when it has a wave. -/
structure Generator where
  wave : Option Wave
  setting : Option Setting
  refCount : Nat
  bound : List (Fin 8)
  deriving DecidableEq, Repr

/-! ### Trigger Unit (chapter 8) -/

/-- The mode of a binding, with the repeats of the edge modes (R127). -/
inductive BindMode where
  | edgeTap (repeats : Nat)
  | edgeRetrigger (repeats : Nat)
  | levelHold
  deriving DecidableEq, Repr

/-- A binding (R127). -/
structure Binding where
  zone : Fin 8
  template : Fin 64
  payload : List Bool
  tag : Half
  mode : BindMode
  debounce : Nat
  deriving DecidableEq, Repr

/-- The states of a line (R130). -/
inductive LineState where
  | unbound | waitLow | armed | fired | holding
  deriving DecidableEq, Repr

/-- A trigger line (R129, R130). `debounceEnd` is present while the debounce timer runs. -/
structure Line where
  binding : Option Binding
  state : LineState
  taken : Bool
  debounceEnd : Option Nat
  deriving DecidableEq, Repr

/-! ### Capture Unit (chapter 9) -/

/-- The source of a session (R141). -/
inductive CaptureSource where
  | capd
  | capc
  | loopback (z : Fin 8)
  deriving DecidableEq, Repr

/-- The cause of a FAILED session (R141). -/
inductive CaptureCause where
  | noSignal | stuck
  deriving DecidableEq, Repr

/-- The states of a session; a unit with no session is IDLE (R142). -/
inductive SessionState where
  | armed
  | recording
  | done
  | failed (cause : CaptureCause)
  deriving DecidableEq, Repr

/-- The carrier estimate (R141, R149). -/
inductive Estimate where
  | pending
  | none
  | present (period edges : Nat)
  deriving DecidableEq, Repr

/-- The envelope former (R144, R145). `initial`: the initial space, not yet recognised; for CAPC and LOOPBACK the
instant since which the input has been low (log 20), for CAPD waiting for the pin to go high. `space`: in a space, with
its start once a mark has been recorded. `mark`: its first rising edge (falling edge of CAPD), its last, and the
falling edge after it when the input is low. -/
inductive Former where
  | initial (lowSince : Option Nat)
  | space (since : Option Nat)
  | mark (start lastRise : Nat) (fall : Option Nat)
  deriving DecidableEq, Repr

/-- The session record and capture list (R141), with the former and the start timeout. `edges` counts the rising edges
of the first mark (R149). -/
structure Session where
  state : SessionState
  source : CaptureSource
  startTimeout : Nat
  endGap : Nat
  maxEntries : Nat
  startTime : Option Word
  saturated : Bool
  truncated : Bool
  estimate : Estimate
  list : List Nat
  timeoutAt : Nat
  former : Former
  edges : Nat
  deriving DecidableEq, Repr

/-! ### Notification Controller (chapter 10) -/

/-- The thirteen notice sources (R156). -/
inductive Source where
  | engine | fault | link | capture | trigger
  | zone (z : Fin 8)
  deriving DecidableEq, Repr

/-- Priority and mask of a source (R156). -/
structure SourceSetting where
  priority : Fin 8
  masked : Bool
  deriving DecidableEq, Repr

/-- An in-service entry: a source and its recorded priority (R160). -/
structure ServiceEntry where
  source : Source
  priority : Fin 8
  deriving DecidableEq, Repr

/-- The contents of the LINK latch: a set of causes (R158, R175). -/
structure LinkCauses where
  check : Bool
  truncated : Bool
  length : Bool
  overrun : Bool
  deriving DecidableEq, Repr

/-- The contents of the CAPTURE latch: a session's outcome (R150). -/
structure CaptureOutcome where
  state : SessionState
  entries : Nat
  saturated : Bool
  truncated : Bool
  deriving DecidableEq, Repr

/-- The Notification Controller (R156 to R160). Settings stand in the order of the source numbers. -/
structure Notices where
  settings : Vector SourceSetting 13
  threshold : Fin 9
  inService : List ServiceEntry
  engineLatch : Option ResetCause
  faultLatch : List (Fin 8 × FaultKind)
  linkLatch : LinkCauses
  captureLatch : Option CaptureOutcome
  triggerLatch : Vector (Option Status) 4
  deriving DecidableEq, Repr

/-! ### Replies: the fields each rule gives a reply, by name -/

/-- Where a release or a cancel found its job (Table 11-8). -/
inductive Location where
  | active | queued
  deriving DecidableEq, Repr

/-- The active result of a flush with the active job's tag and frames started (R113). -/
inductive FlushResult where
  | none
  | kept (tag : Half) (frames : Nat)
  | pending (tag : Half) (frames : Nat)
  | ended (tag : Half) (frames : Nat)
  deriving DecidableEq, Repr

/-- What TEMPLATE QUERY returns (R18). -/
structure TemplateReport where
  header : TemplateHeader
  band : Band
  dataBits : Nat
  repeatData : Nat
  toggled : Bool
  mainCount : Nat
  repeatCount : Nat
  useCount : Nat
  offset : Nat
  elements : List ElementRecord
  deriving DecidableEq, Repr

/-- What LIBRARY QUERY returns (R19). -/
structure LibraryReport where
  used : Nat
  free : Nat
  count : Nat
  installed : Vector Bool 64
  staging : Option (Fin 64 × Nat × Nat)
  deriving DecidableEq, Repr

/-- The active job part of a ZONE QUERY reply (R42). -/
structure ActiveReport where
  tag : Half
  template : Fin 64
  hold : Bool
  origin : Origin
  framesStarted : Nat
  framesTarget : Nat
  released : Bool
  cancelAfterFrame : Bool
  list : Option ListName
  frameNumber : Option Nat
  binding : Option (Fin 4)
  deriving DecidableEq, Repr

/-- What ZONE QUERY returns (R42). -/
structure ZoneReport where
  state : ZoneState
  config : ZoneConfig
  effective : BandSet
  tags : List Half
  active : Option ActiveReport
  completions : Nat
  condition : Condition
  openSeen : Bool
  overloadSeen : Bool
  toggles : Vector Bool 64
  deriving DecidableEq, Repr

/-- What SLOT QUERY returns (R59). -/
structure SlotReport where
  staged : Bool
  plan : Option SlotPlan
  index : Fin 16
  waiting : List (Fin 8 × Half × Fin 64)
  locks : Vector (Option (Fin 8)) 4
  deriving DecidableEq, Repr

/-- One entry of CARRIER QUERY (R73). -/
structure CarrierReport where
  running : Bool
  setting : Option Setting
  period : Option Nat
  band : Option Band
  refCount : Nat
  bound : Vector Bool 8
  deriving DecidableEq, Repr

/-- What TRIGGER QUERY returns (R139). -/
structure LineReport where
  line : Fin 4
  state : LineState
  binding : Option Binding
  taken : Bool
  pin : Bool
  debouncing : Bool
  deriving DecidableEq, Repr

/-- What CAPTURE QUERY returns (R152); the part that is absent in IDLE is one option. -/
structure CaptureReport where
  state : Option SessionState
  limits : Option (CaptureSource × Nat × Nat × Nat)
  entries : Nat
  saturated : Bool
  truncated : Bool
  startTime : Option Word
  estimate : Option (Estimate × Option Band)
  deriving DecidableEq, Repr

/-- One source of a NOTICE PEEK reply (R167). -/
structure SourceReport where
  pending : Bool
  masked : Bool
  priority : Fin 8
  inService : Bool
  deriving DecidableEq, Repr

/-- What IDENTIFY returns (R180). -/
structure IdentifyReport where
  vendor : List Byte
  part : List Byte
  revision : Byte
  zones : Nat
  slots : Nat
  cells : Nat
  generators : Nat
  lines : Nat
  captureEntries : Nat
  baud : Bool
  zclass : Vector Bool 8
  deriving DecidableEq, Repr

/-- The header of a notice (R165, Table 11-7). No recorded priority: delivered unclaimed. -/
structure NoticeHeader where
  source : Source
  claimed : Option (Fin 8)
  inService : Nat
  deriving DecidableEq, Repr

/-- What a notice carries after its header (R165). -/
inductive NoticeBody where
  | zone (record : Completion) (left : Nat) (state : ZoneState)
  | fault (pairs : List (Fin 8 × FaultKind))
  | link (causes : LinkCauses)
  | capture (copy : CaptureOutcome)
  | trigger (entries : Vector (Option Status) 4)
  | engine (cause : ResetCause)
  deriving DecidableEq, Repr

/-- The fields of a reply after its status byte, as the rule of the request gives them. -/
inductive ReplyFields where
  | none
  | identify (r : IdentifyReport)
  /-- R10: the previous target (present when the replaced flag is set), the target state, its use count. -/
  | templateBegin (previous : Option (Fin 64)) (installed : Bool) (useCount : Nat)
  | templateAppend (main rep : Nat)
  | invalidTemplate (reason : Invalid)
  | inUse (useCount : Nat)
  | noSpace (needed free : Nat)
  | templateCommit (target : Fin 64) (replaced : Bool) (cells dataBits : Nat) (band : Band) (used free : Nat)
  | templateDelete (freed used free : Nat)
  | templateQuery (r : TemplateReport)
  | libraryQuery (r : LibraryReport)
  | zoneSetup (config : ZoneConfig) (effective : BandSet) (state : ZoneState)
  | zoneBusy (state : ZoneState) (queued : Nat)
  | zoneQuery (r : ZoneReport)
  /-- R122: the discarded active job's tag, the discarded queued tags, the discarded records, the state. -/
  | zoneReset (zone : Fin 8) (active : Option Half) (tags : List Half) (records : Nat) (state : ZoneState)
  | faultClear (zone : Fin 8) (cleared : Condition) (queued : Nat) (state : ZoneState)
  | jobSubmit (zone : Fin 8) (tag : Half) (queued : Nat) (state : ZoneState)
  | jobActive (zone : Fin 8) (tag : Half) (frames : Nat) (ended : Bool) (state : ZoneState)
  | releaseQueued (zone : Fin 8) (tag : Half) (place : Nat) (state : ZoneState)
  | releaseAlready (location : Location) (frames : Option Nat)
  | notHold (location : Location) (frames : Option (Nat × Nat))
  | tooLate (tag : Half) (frames : Nat) (endTime : Word)
  | cancelQueued (zone : Fin 8) (tag : Half) (template : Fin 64) (hold : Bool) (left : Nat) (state : ZoneState)
  | cancelAlready (frames : Nat)
  | zoneFlush (zone : Fin 8) (removed : List Half) (result : FlushResult) (state : ZoneState)
  | completion (record : Completion) (left : Nat) (state : ZoneState)
  | slotPlan (replaced : Bool) (index : Fin 16) (toCome : Nat)
  | slotQuery (r : SlotReport)
  | carrierQuery (r : Vector CarrierReport 4)
  | timeQuery (reading : Word)
  | triggerBind (line : Fin 4) (removed released : Bool) (state : LineState) (taken : Bool)
  | triggerQuery (r : LineReport)
  /-- R143, R151: the state before the request (none: IDLE), the entries discarded, and the state after, which the reply to
  ARM alone carries (none: not carried). -/
  | captureChange (before : Option SessionState) (discarded : Nat) (after : Option SessionState)
  | captureQuery (r : CaptureReport)
  | captureRead (offset : Nat) (entries : List Nat)
  | notice (header : NoticeHeader) (body : NoticeBody)
  | noticeNone (pending inService : Bool)
  | noticePeek (sources : List SourceReport) (service : List ServiceEntry) (pick : Option Source) (threshold : Fin 9) (attn : Bool)
  | noticeAck (removed : ServiceEntry) (left : Nat) (pick : Option Source) (attn : Bool)
  | noticeSetup (threshold : Fin 9) (settings : Vector SourceSetting 13) (pick : Option Source) (attn : Bool)
  deriving DecidableEq, Repr

/-- A reply (R172): reply code, sequence number, status, fields. -/
structure Reply where
  code : Byte
  seq : Byte
  status : Status
  fields : ReplyFields
  deriving DecidableEq, Repr

/-! ### Message Port (chapter 11) -/

/-- The states of the frame assembler (R173). -/
inductive Assembler where
  | hunting | length | body | checkHigh | checkLow
  deriving DecidableEq, Repr

/-- The request in handling (R177): its code, its reply, the frame being sent, when its first start bit began and when its
last stop bit ends. -/
structure Handling where
  code : Byte
  reply : Reply
  frame : List Byte
  startsAt : Nat
  endsAt : Nat
  deriving DecidableEq, Repr

/-- The Message Port (R173 to R177). The buffer holds the bodies of complete request frames; `deaf` says that the
character now on RXD began before reset release and is not received (R183). -/
structure Port where
  baud : Bool
  deaf : Bool
  assembler : Assembler
  length : Nat
  body : List Byte
  check : Half
  checkHigh : Byte
  gapEnd : Option Nat
  buffer : List (List Byte)
  handling : Option Handling
  deriving DecidableEq, Repr

/-- The levels the outside presents at the input pins (00_scope.md section 6). True is the high level. -/
structure Pins where
  resetN : Bool
  baud : Bool
  zclass : Vector Bool 8
  zsense : Vector Condition 8
  trig : Vector Bool 4
  capd : Bool
  capc : Bool
  /-- A character has begun on RXD and its stop bit has not ended (R174, log 13). -/
  rxdBusy : Bool
  deriving DecidableEq, Repr

/-! ### The state of the part -/

/-- The whole part. `ticks` counts 125 ns ticks since the last reset edge; `assertedReset` is the cause of the reset now
asserted, if one is; `freeCount` is the model's own counter for free values (log 6). -/
structure State where
  ticks : Nat
  assertedReset : Option ResetCause
  supply : Supply
  pins : Pins
  port : Port
  library : Library
  zones : Vector Zone 8
  arbiter : Arbiter
  generators : Vector Generator 4
  lines : Vector Line 4
  capture : Option Session
  notices : Notices
  freeCount : Nat
  pending : List Instr
  deriving DecidableEq, Repr

/-- Why a command stops the part: nothing in the manual does, so there is no fault. -/
inductive Fault where
  deriving DecidableEq, Repr

/-- Why the model has no answer for a command. -/
inductive Refusal where
  /-- Raised by Machine/Dispatch.lean alone, for a command whose meaning is not modelled. Safe: the model stops. -/
  | notModelled (mnemonic : String)
  deriving DecidableEq, Repr

/-! ### Reset values, block by block -/

/-- R20: every slot EMPTY, use counts 0, no used cells, staging CLOSED. -/
def Library.reset : Library :=
  { slots := Vector.replicate 64 { template := none, useCount := 0 }, usedCells := 0, staging := none }

/-- All three bands (R28). -/
def BandSet.all : BandSet := { baseband := true, lf := true, hf := true }

/-- R44, R126: a zone after an engine reset, with the strap class then in force. -/
def Zone.reset (strap : StrapClass) : Zone :=
  { config := { enabled := true, hostBands := BandSet.all, strap := strap, group := none, dark := false }
    queue := [], active := none, completions := [], toggles := Vector.replicate 64 false, quietEnd := none
    condition := .normal, openSeen := false, overloadSeen := false, emission := none }

/-- R47: the default plan, L = 20 and every mask all sixteen slots. -/
def SlotPlan.default : SlotPlan := { length := 20, masks := Vector.replicate 8 0xFFFF#16 }

/-- R46, R60: slot 0 begins at release and runs for the default slot length. -/
def Arbiter.reset : Arbiter :=
  { slotIndex := 0, slotEnd := SlotPlan.default.length * Config.ticksPerSlotUnit, activePlan := SlotPlan.default
    stagedPlan := none, waiting := [], locks := Vector.replicate 4 none }

/-- R74: a FREE generator with an unset setting. -/
def Generator.reset : Generator := { wave := none, setting := none, refCount := 0, bound := [] }

/-- R140: an UNBOUND line whose taken level is the pin level at release. -/
def Line.reset (pin : Bool) : Line := { binding := none, state := .unbound, taken := pin, debounceEnd := none }

/-- R156: the default priorities in source number order, all unmasked. -/
def Notices.defaultSettings : Vector SourceSetting 13 :=
  #v[⟨0, false⟩, ⟨1, false⟩, ⟨2, false⟩, ⟨4, false⟩, ⟨5, false⟩, ⟨6, false⟩, ⟨6, false⟩, ⟨6, false⟩, ⟨6, false⟩,
     ⟨6, false⟩, ⟨6, false⟩, ⟨6, false⟩, ⟨6, false⟩]

/-- R170: defaults, nothing in service, every latch clear but ENGINE's. -/
def Notices.reset (engine : Option ResetCause) : Notices :=
  { settings := Notices.defaultSettings, threshold := 8, inService := [], engineLatch := engine, faultLatch := []
    linkLatch := { check := false, truncated := false, length := false, overrun := false }
    captureLatch := none, triggerLatch := Vector.replicate 4 none }

/-- R183: HUNTING, gap timer stopped, buffer empty, nothing in handling; deaf to a character already in progress. -/
def Port.reset (baud busy : Bool) : Port :=
  { baud := baud, deaf := busy, assembler := .hunting, length := 0, body := [], check := 0xFFFF#16, checkHigh := 0, gapEnd := none
    buffer := [], handling := none }

/-- The strap class of a ZCLASS level: high is WIRED (R28, 00_scope.md section 6). -/
def StrapClass.ofLevel (level : Bool) : StrapClass := if level then .wired else .ir

/-- R181: the part at reset release with these pin levels and this cause: the straps are sampled, the ENGINE latch is
written, and every block stands as its own reset rule says. -/
def State.released (pins : Pins) (cause : ResetCause) (freeCount : Nat) (pending : List Instr) : State :=
  { ticks := 0, assertedReset := none, supply := .stable, pins := pins, port := Port.reset pins.baud pins.rxdBusy
    library := Library.reset, zones := mapVector (fun level => Zone.reset (StrapClass.ofLevel level)) pins.zclass
    arbiter := Arbiter.reset, generators := Vector.replicate 4 Generator.reset, lines := mapVector Line.reset pins.trig
    capture := none, notices := Notices.reset (some cause), freeCount := freeCount, pending := pending }

/-- The pin levels of `State.reset` (log 10, DESIGN CHOICE): RESET_N high, straps low, ZSENSE NORMAL, triggers low,
CAPD high (no mark), CAPC low, RXD idle. -/
def Pins.atReset : Pins :=
  { resetN := true, baud := false, zclass := Vector.replicate 8 false, zsense := Vector.replicate 8 .normal
    trig := Vector.replicate 4 false, capd := true, capc := false, rxdBusy := false }

/-- The part right after the release of a POWER reset (log 11), with no command waiting. -/
def State.reset : State := State.released Pins.atReset .power 0 []

end Sys2Proof.Machine
end

