-- ==== Sys2Proof/Machine/Ops.lean ====
section
/-!
DEFINITION. The named operations over State that every block uses: reading and writing one zone, one slot, one
generator or line, the use counts, the Time Base reading, the passing of time, the latches. A block has no exception entry.
-/
namespace Sys2Proof.Machine

/-! ### Indices -/

def allZones : List (Fin 8) := [0, 1, 2, 3, 4, 5, 6, 7]
def allGenerators : List (Fin 4) := [0, 1, 2, 3]
def allLines : List (Fin 4) := [0, 1, 2, 3]

/-! ### Time -/

/-- The Time Base reading that names an instant (R61): its microsecond, modulo 2^32. -/
def reading (instant : Nat) : Word := BitVec.ofNat 32 (instant / Config.ticksPerUs)

/-- The Time Base counter (R61): held at 0 while reset is asserted. -/
def State.timeBase (s : State) : Word := if s.assertedReset.isSome then 0 else reading s.ticks

/-- Time has reached `instant`: it passes up to there, and never runs back (log 3). -/
def State.advance (s : State) (instant : Nat) : State := { s with ticks := max s.ticks instant }

/-- One tick of 125 ns passes. -/
def State.tick (s : State) : State := { s with ticks := s.ticks + 1 }

/-! ### Zones -/

def State.zone (s : State) (z : Fin 8) : Zone := s.zones[z]

def State.setZone (s : State) (z : Fin 8) (zone : Zone) : State := { s with zones := s.zones.set z zone }

/-- Change the records of one zone. -/
def State.updZone (s : State) (z : Fin 8) (f : Zone → Zone) : State := s.setZone z (f (s.zone z))

/-- Change the active job of a zone, if it has one. -/
def State.updActive (s : State) (z : Fin 8) (f : ActiveJob → ActiveJob) : State :=
  s.updZone z fun zn => { zn with active := zn.active.map f }

/-! ### Library slots and use counts -/

def State.slot (s : State) (i : Fin 64) : Slot := s.library.slots[i]

def State.setSlot (s : State) (i : Fin 64) (slot : Slot) : State :=
  { s with library := { s.library with slots := s.library.slots.set i slot } }

/-- A template no library holds: what an index of an EMPTY slot reads as. No job names one (R7). -/
def Template.blank : Template :=
  { header := { carrierHigh := 0, carrierLow := 0, zeroMark := 0, zeroSpace := 0, oneMark := 0, oneSpace := 0
                leadPeriod := 0, repeatPeriod := 0, minRepeats := 0, holdLimit := 0 }
    main := [], rep := [] }

/-- The template a job or binding names. Its slot is INSTALLED, as the use count keeps it so (R7, R36). -/
def State.template (s : State) (i : Fin 64) : Template := (s.slot i).template.getD Template.blank

/-- The use count rises by 1 (R7). -/
def State.addUse (s : State) (i : Fin 64) : State :=
  s.setSlot i { s.slot i with useCount := (s.slot i).useCount + 1 }

/-- The use count falls by 1 (R7). -/
def State.dropUse (s : State) (i : Fin 64) : State :=
  s.setSlot i { s.slot i with useCount := (s.slot i).useCount - 1 }

/-- The use count falls by 1 for each of these jobs (R112, R122). -/
def State.dropUses (s : State) (jobs : List Job) : State := jobs.foldl (fun s j => s.dropUse j.template) s

/-- The toggle bit of an index is set to 0 in all eight zones (R16). -/
def State.clearToggles (s : State) (i : Fin 64) : State :=
  { s with zones := mapVector (fun zn => { zn with toggles := zn.toggles.set i false }) s.zones }

/-! ### Generators and lines -/

def State.generator (s : State) (g : Fin 4) : Generator := s.generators[g]

def State.setGenerator (s : State) (g : Fin 4) (gen : Generator) : State :=
  { s with generators := s.generators.set g gen }

def State.line (s : State) (n : Fin 4) : Line := s.lines[n]

def State.setLine (s : State) (n : Fin 4) (line : Line) : State := { s with lines := s.lines.set n line }

/-! ### Latches (R158): a new event joins what the latch holds -/

/-- The pair is added to the FAULT latch; one already present is not added again. -/
def State.latchFault (s : State) (z : Fin 8) (k : FaultKind) : State :=
  { s with notices := { s.notices with
      faultLatch := if (z, k) ∈ s.notices.faultLatch then s.notices.faultLatch else s.notices.faultLatch ++ [(z, k)] } }

/-- The causes of a discarded frame (R175). -/
inductive LinkCause where
  | check | truncated | length | overrun
  deriving DecidableEq, Repr

def LinkCauses.add (l : LinkCauses) : LinkCause → LinkCauses
  | .check => { l with check := true }
  | .truncated => { l with truncated := true }
  | .length => { l with length := true }
  | .overrun => { l with overrun := true }

/-- The cause is written into the LINK latch (R175). -/
def State.latchLink (s : State) (c : LinkCause) : State :=
  { s with notices := { s.notices with linkLatch := s.notices.linkLatch.add c } }

/-- A session's outcome replaces what the CAPTURE latch holds (R150). -/
def State.latchCapture (s : State) (copy : CaptureOutcome) : State :=
  { s with notices := { s.notices with captureLatch := some copy } }

/-- The line's entry of the TRIGGER latch becomes this status (R131). -/
def State.latchTrigger (s : State) (n : Fin 4) (status : Status) : State :=
  { s with notices := { s.notices with triggerLatch := s.notices.triggerLatch.set n (some status) } }

/-! ### Answers of the owning blocks -/

/-- What an owning block makes of a request (R179): the state after it, the status, the reply's fields. -/
structure Answer where
  state : State
  status : Status
  fields : ReplyFields
  deriving DecidableEq, Repr

/-- A refusal changes nothing and its reply ends with the status byte (R179). -/
def refuse (s : State) (status : Status) : Answer := ⟨s, status, .none⟩

/-- A refusal that changes nothing and carries fields (R179). -/
def refuseWith (s : State) (status : Status) (fields : ReplyFields) : Answer := ⟨s, status, fields⟩

/-- The request was taken (R179). -/
def accept (s : State) (fields : ReplyFields) : Answer := ⟨s, .ok, fields⟩

end Sys2Proof.Machine
end

