-- ==== Sys2Proof/Machine/Operands.lean ====
section
/-!
DEFINITION. The values that the bytes of a request's fields stand for (Table 11-8), and back: every operand form of the
requests.
-/
namespace Sys2Proof.Machine

/-- A byte as an index below n: a zone, a template, a line, a group. -/
def index? (n : Nat) (b : Byte) : Option (Fin n) := if h : b.toNat < n then some ⟨b.toNat, h⟩ else none

/-- FFh stands for an absent one-byte field (R178). -/
def absentByte : Byte := 0xFF#8

/-- A one-byte field that may be absent: none if FFh, else what its byte stands for; the outer none is an undefined
value. -/
def optionalField {α : Type} (value : Byte → Option α) (b : Byte) : Option (Option α) :=
  if b = absentByte then some none else (value b).map some

/-- 00h no, 01h yes (Table 11-8). -/
def yesNo? (b : Byte) : Option Bool :=
  if b = 0x00#8 then some false else if b = 0x01#8 then some true else none

/-- Bit 0 BASEBAND, bit 1 LF, bit 2 HF (Table 11-8); a byte with a higher bit set is undefined (log 18). -/
def bandSet? (b : Byte) : Option BandSet :=
  if b.toNat < 8 then some { baseband := b.getLsbD 0, lf := b.getLsbD 1, hf := b.getLsbD 2 } else none

/-- 00h to 03h G0 to G3, 04h none (Table 11-8). -/
def group? (b : Byte) : Option (Option (Fin 4)) := if b = 0x04#8 then some none else (index? 4 b).map some

/-- 00h MAIN, 01h REPEAT (Table 11-8). -/
def listName? (b : Byte) : Option ListName :=
  if b = 0x00#8 then some .main else if b = 0x01#8 then some .rep else none

/-- How a cancel or a flush acts on the active job. -/
inductive CancelMode where
  | graceful | immediate
  deriving DecidableEq, Repr

/-- 00h GRACEFUL, 01h IMMEDIATE (Table 11-8). -/
def cancelMode? (b : Byte) : Option CancelMode :=
  if b = 0x00#8 then some .graceful else if b = 0x01#8 then some .immediate else none

/-- 00h KEEP (no mode), 01h GRACEFUL, 02h IMMEDIATE (Table 11-8). -/
def flushAction? (b : Byte) : Option (Option CancelMode) :=
  if b = 0x00#8 then some none
  else if b = 0x01#8 then some (some .graceful)
  else if b = 0x02#8 then some (some .immediate) else none

/-- 00h ACTIVE (false), 01h STAGED (true) (Table 11-8). -/
def planStaged? (b : Byte) : Option Bool := yesNo? b

/-- 00h CAPD, 01h CAPC, 02h LOOPBACK of the zone, which is read for LOOPBACK alone (R143). -/
def captureSource? (b zone : Byte) : Option CaptureSource :=
  if b = 0x00#8 then some .capd
  else if b = 0x01#8 then some .capc
  else if b = 0x02#8 then (index? 8 zone).map .loopback else none

/-- 00h TAP with these repeats, at most 254 and with no override; 01h HOLD with an override of 1 to 4,096, or none when
it is 0000h (R33 check 1). -/
def jobMode? (mode repeats : Byte) (override : Half) : Option JobMode :=
  if mode = 0x00#8 then if repeats.toNat ≤ 254 ∧ override = 0 then some (.tap repeats.toNat) else none
  else if mode = 0x01#8 then
    if override = 0 then some (.hold none)
    else if override.toNat ≤ Config.maxFrames then some (.hold (some override.toNat)) else none
  else none

/-- 00h EDGE TAP, 01h EDGE RETRIGGER, with repeats of at most 254; 02h LEVEL HOLD, repeats ignored (R137). -/
def bindMode? (mode repeats : Byte) : Option BindMode :=
  if mode = 0x00#8 then if repeats.toNat ≤ 254 then some (.edgeTap repeats.toNat) else none
  else if mode = 0x01#8 then if repeats.toNat ≤ 254 then some (.edgeRetrigger repeats.toNat) else none
  else if mode = 0x02#8 then some .levelHold else none

/-- An element record (R4, Table 11-4): a known kind, a count of 1 to 64 where it has one, a duration of at least 1
where it has one; the field a kind does not use is ignored. -/
def element? (e : ElementRecord) : Option Element :=
  if e.kind = 0x01#8 then if 1 ≤ e.duration.toNat then some (.mark e.duration.toNat) else none
  else if e.kind = 0x02#8 then if 1 ≤ e.duration.toNat then some (.space e.duration.toNat) else none
  else if e.kind = 0x03#8 then if 1 ≤ e.count.toNat ∧ e.count.toNat ≤ 64 then some (.dataNext e.count.toNat) else none
  else if e.kind = 0x04#8 then if 1 ≤ e.count.toNat ∧ e.count.toNat ≤ 64 then some (.dataEcho e.count.toNat) else none
  else if e.kind = 0x05#8 then some .toggle else none

/-- The record TEMPLATE QUERY returns for an element (R4, R18): the field its kind does not use is 0. -/
def Element.record : Element → ElementRecord
  | .mark d => { kind := 0x01#8, count := 0, duration := BitVec.ofNat 16 d }
  | .space d => { kind := 0x02#8, count := 0, duration := BitVec.ofNat 16 d }
  | .dataNext c => { kind := 0x03#8, count := BitVec.ofNat 8 c, duration := 0 }
  | .dataEcho c => { kind := 0x04#8, count := BitVec.ofNat 8 c, duration := 0 }
  | .toggle => { kind := 0x05#8, count := 0, duration := 0 }

/-- Every element of the request stands for one, or none of them counts (R11). -/
def elements? : List ElementRecord → Option (List Element)
  | [] => some []
  | e :: rest => match element? e, elements? rest with
    | some x, some xs => some (x :: xs)
    | _, _ => none

/-- The first `length` bits of packed payload bytes; bit 0 is the least significant bit of the first byte, and bits past
the length are ignored (R178). -/
def payloadBits (length : Nat) (bytes : List Byte) : List Bool :=
  (List.range length).map fun i => (bytes.getD (i / 8) 0).getLsbD (i % 8)

/-- Source numbers (R156). -/
def Source.ofNumber (n : Nat) : Option Source :=
  match n with
  | 0 => some .engine
  | 1 => some .fault
  | 2 => some .link
  | 3 => some .capture
  | 4 => some .trigger
  | k + 5 => if h : k < 8 then some (.zone ⟨k, h⟩) else none

/-- A byte that names a source: 0 to 12 (R164, R168, R169). -/
def source? (b : Byte) : Option Source := Source.ofNumber b.toNat

/-- The number of a source (R156), its place in the settings. -/
def Source.number : Source → Fin 13
  | .engine => 0
  | .fault => 1
  | .link => 2
  | .capture => 3
  | .trigger => 4
  | .zone z => ⟨z.val + 5, by omega⟩

/-- The thirteen sources in the order of their numbers, the tie order of R162. -/
def allSources : List Source :=
  [.engine, .fault, .link, .capture, .trigger, .zone 0, .zone 1, .zone 2, .zone 3, .zone 4, .zone 5, .zone 6, .zone 7]

end Sys2Proof.Machine
end

