-- ==== Sys2Proof/Machine/Flags.lean ====
section
/-!
DEFINITION. What the manual computes from the records: bands and derived facts of a template, a zone's effective bands
and state, its gate and outputs, deliverability, the pick and ATTN.
-/
namespace Sys2Proof.Machine

/-! ### Templates (R2, R5) -/

def Setting.period (c : Setting) : Nat := c.high + c.low

/-- LF for a period of 100 ticks or more, HF under it (R2). -/
def bandOfPeriod (period : Nat) : Band := if 100 ≤ period then .lf else .hf

/-- The carrier setting of a header; none when both widths are 0 (R2). -/
def carrierOf (h : TemplateHeader) : Option Setting :=
  if h.carrierHigh = 0 ∧ h.carrierLow = 0 then none else some ⟨h.carrierHigh.toNat, h.carrierLow.toNat⟩

/-- The band of a header (R2). -/
def bandOf (h : TemplateHeader) : Band :=
  match carrierOf h with
  | none => .baseband
  | some c => bandOfPeriod c.period

/-- Payload bits an element takes: only DATA NEXT takes any (R5). -/
def Element.takes : Element → Nat
  | .dataNext c => c
  | _ => 0

/-- The sum of the DATA NEXT counts of a list (R5): the data bit count of a main list, the repeat data total of a repeat
list. -/
def dataBits (elements : List Element) : Nat := (elements.map Element.takes).sum

/-- Every element but SPACE gives a mark (R5). -/
def Element.bearsMark : Element → Bool
  | .space _ => false
  | _ => true

def Element.isToggle : Element → Bool
  | .toggle => true
  | _ => false

def Template.band (t : Template) : Band := bandOf t.header
def Template.carrier (t : Template) : Option Setting := carrierOf t.header
def Template.toggled (t : Template) : Bool := t.main.any Element.isToggle || t.rep.any Element.isToggle
def Template.cells (t : Template) : Nat := t.main.length + t.rep.length
def Template.minRepeats (t : Template) : Nat := t.header.minRepeats.toNat
def Template.holdLimit (t : Template) : Nat := t.header.holdLimit.toNat

/-- The elements of a list of the template. -/
def Template.elements (t : Template) : ListName → List Element
  | .main => t.main
  | .rep => t.rep

/-- Free cells of the pool (R6). -/
def Library.freeCells (l : Library) : Nat := Config.poolCells - l.usedCells

/-! ### Bands of a zone (R28) -/

def BandSet.has (b : BandSet) : Band → Bool
  | .baseband => b.baseband
  | .lf => b.lf
  | .hf => b.hf

/-- IR allows LF and HF, WIRED allows BASEBAND and LF (R28). -/
def StrapClass.bands : StrapClass → BandSet
  | .ir => { baseband := false, lf := true, hf := true }
  | .wired => { baseband := true, lf := true, hf := false }

/-- The host band set intersected with the strap class's set (R28). -/
def ZoneConfig.effective (c : ZoneConfig) : BandSet :=
  { baseband := c.hostBands.baseband && c.strap.bands.baseband
    lf := c.hostBands.lf && c.strap.bands.lf
    hf := c.hostBands.hf && c.strap.bands.hf }

/-! ### Jobs -/

def JobMode.isHold : JobMode → Bool
  | .hold _ => true
  | .tap _ => false

/-- A queued job or the active job of the zone carries the tag (R33 check 7). -/
def Zone.tagInUse (z : Zone) (tag : Half) : Bool :=
  z.queue.any (fun j => j.tag = tag) || (z.active.any fun a => a.job.tag = tag)

/-- The active job when it carries this tag. -/
def Zone.activeWith (z : Zone) (tag : Half) : Option ActiveJob := z.active.filter fun a => a.job.tag = tag

/-- The queued job that carries this tag. -/
def Zone.queuedWith (z : Zone) (tag : Half) : Option Job := z.queue.find? fun j => j.tag = tag

/-! ### Zone states (R31) and the gate (R82) -/

/-- The phase the zone is playing, if it is in FRAME. -/
def Zone.phase (z : Zone) : Option Phase := z.active.bind fun a => a.play.bind fun p => p.phase

/-- The state of an active job: WAITING without a play state, INTERVAL without a phase, else FRAME. -/
def ActiveJob.state (a : ActiveJob) : ZoneState :=
  match a.play with
  | none => .waiting
  | some p => if p.phase.isSome then .frame else .interval

/-- The zone's state, from its records (R31). -/
def Zone.state (z : Zone) : ZoneState :=
  if z.quietEnd.isSome then .resetting
  else if !z.config.enabled then .disabled
  else match z.active with
    | some a => a.state
    | none =>
      if z.condition ≠ .normal then .faulted
      else if z.queue.isEmpty then .idle else .stalled

/-- The gate is open only while the zone's current phase is a mark (R82). -/
def Zone.gateOpen (z : Zone) : Bool := z.phase.any fun p => p.kind = .mark

/-- The carrier binding of the zone's active job (R22). -/
def Zone.binding (z : Zone) : Option (Fin 4) := z.active.bind ActiveJob.binding

/-- The zone takes a report of its driver stage: gate open and not dark (R116). -/
def Zone.sampling (z : Zone) : Bool := z.gateOpen && !z.config.dark

/-- The template of the zone's active job has carrier NONE. -/
def State.baseband (s : State) (z : Fin 8) : Bool :=
  (s.zone z).active.any fun a => (s.template a.job.template).carrier.isNone

/-- The loopback waveform of a zone (R86): high while a high half is emitted or completing, or, for a BASEBAND job,
while the gate is open (R83). -/
def State.loopback (s : State) (z : Fin 8) : Bool :=
  (s.zone z).emission.isSome || ((s.zone z).gateOpen && s.baseband z)

/-- ZOUTn (R83, R84, R86): the loopback waveform of a zone that is not dark. A high half keeps the dark setting of the
job that began it (log 26). -/
def State.zout (s : State) (z : Fin 8) : Bool :=
  ((s.zone z).emission.any fun e => !e.dark) ||
    ((s.zone z).gateOpen && s.baseband z && !(s.zone z).config.dark)

/-! ### Driver conditions -/

def FaultKind.condition : FaultKind → Condition
  | .openLoad => .openLoad
  | .overload => .overload

/-- The fault a report is, if it is one (R117). -/
def faultOf : Condition → Option FaultKind
  | .normal => none
  | .openLoad => some .openLoad
  | .overload => some .overload

/-! ### Carrier Pool -/

def Generator.running (g : Generator) : Bool := g.wave.isSome

/-! ### Notices (R156 to R162) -/

def State.setting (s : State) (n : Source) : SourceSetting := s.notices.settings[n.number]

def LinkCauses.isClear (l : LinkCauses) : Bool := !(l.check || l.truncated || l.length || l.overrun)

/-- Pending while its latch holds something or its zone's completion list is not empty (R156, R157). -/
def State.sourcePending (s : State) : Source → Bool
  | .engine => s.notices.engineLatch.isSome
  | .fault => !s.notices.faultLatch.isEmpty
  | .link => !s.notices.linkLatch.isClear
  | .capture => s.notices.captureLatch.isSome
  | .trigger => s.notices.triggerLatch.toList.any Option.isSome
  | .zone z => !(s.zone z).completions.isEmpty

def State.inService (s : State) (n : Source) : Bool := s.notices.inService.any fun e => e.source = n

/-- The priority is below the recorded priority of every entry (R161, R164). -/
def State.nests (s : State) (p : Fin 8) : Bool := s.notices.inService.all fun e => decide (p < e.priority)

/-- R161. -/
def State.deliverable (s : State) (n : Source) : Bool :=
  s.sourcePending n && !(s.setting n).masked && decide ((s.setting n).priority.val < s.notices.threshold.val)
    && !s.inService n && s.nests (s.setting n).priority

/-- The better of two candidates for the pick: the earlier stands unless the later has a lower priority number (R162). -/
def State.better (s : State) (best : Option Source) (n : Source) : Option Source :=
  match best with
  | none => some n
  | some b => if (s.setting n).priority < (s.setting b).priority then some n else some b

/-- The pick (R162): the deliverable source of the lowest priority number, ties in source number order. -/
def State.pick (s : State) : Option Source := (allSources.filter s.deliverable).foldl s.better none

/-- ATTN is asserted (low) exactly while some source is deliverable (R161), and high while reset lasts (R170). -/
def State.attn (s : State) : Bool := s.assertedReset.isNone && s.pick.isSome

end Sys2Proof.Machine
end

