-- ==== Sys2Proof/Machine/Capture.lean ====
section
/-!
DEFINITION. The Capture Unit (chapter 9): sessions, the envelope former, the capture list, the carrier estimate.
-/
namespace Sys2Proof.Machine

def State.setSession (s : State) (c : Option Session) : State := { s with capture := c }

/-! ### The end of a session (R148, R150) -/

/-- The copy of a session's outcome that is latched (R150). -/
def Session.outcome (c : Session) : CaptureOutcome :=
  { state := c.state, entries := c.list.length, saturated := c.saturated, truncated := c.truncated }

/-- The session ends in DONE or FAILED and its outcome is latched in the same event (R150). -/
def State.endSession (s : State) (c : Session) : State := (s.setSession (some c)).latchCapture c.outcome

/-- A session that has just changed: if it has come to rest its outcome is latched (R150). -/
def State.putSession (s : State) (c : Session) : State :=
  match c.state with
  | .done => s.endSession c
  | .failed _ => s.endSession c
  | _ => s.setSession (some c)

/-! ### Appending (R147, R148) -/

/-- A span in ticks as a stored duration: whole microseconds rounded down, at least 1, at most 65,535 (R147). -/
def storedDuration (ticks : Nat) : Nat := min (max (ticks / Config.ticksPerUs) 1) 65535

/-- A phase joins the tail of the list; an append that reaches the armed maximum ends the session DONE, truncated
(R148). -/
def Session.append (c : Session) (duration : Nat) : Session :=
  let c1 := { c with list := c.list ++ [duration] }
  if c.maxEntries ≤ c1.list.length then { c1 with state := .done, truncated := true } else c1

/-- A mark joins the list; one longer than 65,535 µs sets the saturated flag (R147). That the length is taken in whole
microseconds, rounded down, is the model's choice (log 32). -/
def Session.appendMark (c : Session) (ticks : Nat) : Session :=
  { c with saturated := c.saturated || decide (65535 < ticks / Config.ticksPerUs) }.append (storedDuration ticks)

/-- A space joins the list (R147). -/
def Session.appendSpace (c : Session) (ticks : Nat) : Session := c.append (storedDuration ticks)

/-! ### The carrier estimate (R149) -/

/-- The estimate from the first mark's rising edges: their count k and the ticks from the first to the last. -/
def estimateOf (k ticks : Nat) : Estimate := if 4 ≤ k then .present (ticks / (k - 1)) k else .none

/-- At the end of the first mark a pending estimate is settled (R149). -/
def Session.settle (c : Session) (firstRise lastRise : Nat) : Session :=
  if c.estimate = .pending then { c with estimate := estimateOf c.edges (lastRise - firstRise) } else c

/-! ### Mark starts and mark ends (R147) -/

/-- A mark start taken now: in ARMED the session enters RECORDING and stamps its start; in RECORDING the space it ends
is appended, and a full list ends the session there. -/
def Session.markStart (c : Session) (since : Option Nat) (now : Nat) : Session :=
  match c.state with
  | .armed =>
    { c with state := .recording, startTime := some (reading now), former := .mark now now none, edges := 1 }
  | .recording =>
    let c1 := match since with
      | some t => c.appendSpace (now - t)
      | none => c
    { c1 with former := .mark now now none }
  | _ => c

/-- A mark end recognised: the estimate is settled, the mark appended with the duration to its falling edge, and the
space runs from there (R145, R147). -/
def Session.markEnd (c : Session) (start lastRise fall : Nat) : Session :=
  { (c.settle start lastRise).appendMark (fall - start) with former := .space (some fall) }

/-- The session is ARMED or RECORDING (R142). -/
def Session.running (c : Session) : Bool := decide (c.state = .armed) || decide (c.state = .recording)

/-! ### The former on CAPD (R144) -/

/-- A transition of CAPD to this level reaches a running session on CAPD: low starts a mark, high ends it. -/
def Session.capdEdge (c : Session) (level : Bool) (now : Nat) : Session :=
  match c.former, level with
  | .initial _, true => { c with former := .space none }
  | .space since, false => c.markStart since now
  | .mark start lastRise _, true => c.markEnd start lastRise now
  | _, _ => c

/-! ### The former on CAPC and LOOPBACK (R145) -/

/-- A rising edge: in the initial space it restarts the 160 µs, in a space it starts a mark, within 160 µs of the last
one it continues the mark, and from 160 µs on the mark's end is recognised first and dated back to its falling edge. -/
def Session.risingEdge (c : Session) (now : Nat) : Session :=
  match c.former with
  | .initial none => c
  | .initial (some t) =>
    if t + Config.windowTicks < now then c.markStart none now else { c with former := .initial none }
  | .space since => c.markStart since now
  | .mark _ _ none => c
  | .mark start lastRise (some fall) =>
    if now < lastRise + Config.windowTicks then
      { c with former := .mark start now none, edges := if c.estimate = .pending then c.edges + 1 else c.edges }
    else
      let c1 := c.markEnd start lastRise fall
      if c1.running then c1.markStart (some fall) now else c1

/-- A falling edge: it ends at once a mark whose 160 µs window has passed with the input high, and else is kept as the
edge the mark's end may be dated to. -/
def Session.fallingEdge (c : Session) (now : Nat) : Session :=
  match c.former with
  | .initial none => { c with former := .initial (some now) }
  | .mark start lastRise none =>
    if lastRise + Config.windowTicks ≤ now then c.markEnd start lastRise now
    else { c with former := .mark start lastRise (some now) }
  | _ => c

/-- The level the former last saw on CAPC or LOOPBACK. -/
def Former.level : Former → Bool
  | .initial none => true
  | .mark _ _ none => true
  | _ => false

/-- The running session, if there is one. -/
def State.runningSession (s : State) : Option Session := s.capture.filter Session.running

/-- The edge is one the session's source carries: CAPC itself, or the named zone's loopback waveform, whose level must
be the one after the edge (R146). -/
def State.edgeReaches (s : State) (source : CaptureSource) (input : EdgeInput) (level : Bool) : Bool :=
  match source, input with
  | .capc, .capc => true
  | .loopback z, .loopback => decide (s.loopback z = level)
  | _, _ => false

/-! ### Events -/

/-- CAPD_EDGE (R144): a level equal to the present one is no transition. While reset is asserted only the pin moves. -/
def capdEdge (level : Bool) (s : State) : State :=
  let s1 := { s with pins := { s.pins with capd := level } }
  if s.pins.capd = level then s1
  else match s.runningSession with
    | none => s1
    | some c => if c.source = .capd then s1.putSession (c.capdEdge level s.ticks) else s1

/-- The pin an edge moves: CAPC, or none for the loopback waveform. -/
def State.moveInput (s : State) (input : EdgeInput) (level : Bool) : State :=
  match input with
  | .capc => { s with pins := { s.pins with capc := level } }
  | .loopback => s

/-- CAPTURE_RISING_EDGE (R145, R146). -/
def captureRisingEdge (input : EdgeInput) (s : State) : State :=
  let s1 := s.moveInput input true
  match s.runningSession with
  | none => s1
  | some c =>
    if s.edgeReaches c.source input true && !c.former.level then s1.putSession (c.risingEdge s.ticks) else s1

/-- CAPTURE_FALLING_EDGE (R145, R146). -/
def captureFallingEdge (input : EdgeInput) (s : State) : State :=
  let s1 := s.moveInput input false
  match s.runningSession with
  | none => s1
  | some c =>
    if s.edgeReaches c.source input false && c.former.level then s1.putSession (c.fallingEdge s.ticks) else s1

/-- MARK_END_TIMEOUT (R145): 160 µs after the last rising edge with the input low. -/
def markEndTimeout (s : State) : State :=
  match s.runningSession with
  | none => s
  | some c =>
    match c.former with
    | .mark start lastRise (some fall) =>
      if c.source = .capd then s
      else (s.advance (lastRise + Config.windowTicks)).putSession (c.markEnd start lastRise fall)
    | _ => s

/-- INITIAL_SPACE_RECOGNISED (R145): the input has been low for 160 µs. -/
def initialSpaceRecognised (s : State) : State :=
  match s.runningSession with
  | none => s
  | some c =>
    match c.former with
    | .initial (some t) => (s.advance (t + Config.windowTicks)).setSession (some { c with former := .space none })
    | _ => s

/-- START_TIMEOUT_EXPIRY (R147): in ARMED the session ends FAILED with cause NO_SIGNAL. -/
def startTimeoutExpiry (s : State) : State :=
  match s.capture with
  | none => s
  | some c =>
    if c.state = .armed then (s.advance c.timeoutAt).endSession { c with state := .failed .noSignal } else s

/-- END_GAP_EXPIRY (R148): a space in RECORDING has lasted the end gap; it is not appended. -/
def endGapExpiry (s : State) : State :=
  match s.capture with
  | none => s
  | some c =>
    match c.state, c.former with
    | .recording, .space (some t) => (s.advance (t + c.endGap * Config.ticksPerUs)).endSession { c with state := .done }
    | _, _ => s

/-- A mark that has reached 250,000 µs (R147): appended as 65,535, saturated, FAILED with cause STUCK, which takes
precedence over a full list (R148). -/
def Session.stick (c : Session) (start lastRise : Nat) : Session :=
  let c1 := c.settle start lastRise
  { c1 with list := c1.list ++ [65535], saturated := true, state := .failed .stuck }

/-- STUCK_MARK (R147). -/
def stuckMark (s : State) : State :=
  match s.capture with
  | none => s
  | some c =>
    match c.state, c.former with
    | .recording, .mark start lastRise _ => (s.advance (start + Config.stuckTicks)).endSession (c.stick start lastRise)
    | _, _ => s

/-! ### Requests -/

/-- Where the former begins (R144, R145): CAPD high is a space at once, CAPD low is waited out; on CAPC and LOOPBACK the
initial space counts from now if the input is low. -/
def State.firstFormer (s : State) (source : CaptureSource) : Former :=
  match source with
  | .capd => if s.pins.capd then .space none else .initial none
  | .capc => .initial (if s.pins.capc then none else some s.ticks)
  | .loopback z => .initial (if s.loopback z then none else some s.ticks)

/-- The session an accepted CAPTURE ARM makes (R143). -/
def State.newSession (s : State) (source : CaptureSource) (startTimeout endGap maxEntries : Nat) : Session :=
  { state := .armed, source := source, startTimeout := startTimeout, endGap := endGap, maxEntries := maxEntries
    startTime := none, saturated := false, truncated := false
    estimate := if source = .capd then .none else .pending
    list := [], timeoutAt := s.ticks + startTimeout * 1000 * Config.ticksPerUs, former := s.firstFormer source, edges := 0 }

/-- The limits of R143 check 1. -/
def limitsOk (startTimeout endGap maxEntries : Nat) : Bool :=
  decide (1 ≤ startTimeout) && decide (1000 ≤ endGap) && decide (2 ≤ maxEntries) && decide (maxEntries ≤ 512)

/-- Entries of the capture list (R141); none in IDLE. -/
def State.captureEntries (s : State) : Nat := s.capture.elim 0 fun c => c.list.length

/-- CAPTURE ARM (R143). -/
def captureArm (source zone : Byte) (startTimeout endGap maxEntries : Half) (s : State) : Answer :=
  match captureSource? source zone with
  | none => refuse s .badField
  | some src =>
    if !limitsOk startTimeout.toNat endGap.toNat maxEntries.toNat then refuse s .badField
    else if s.runningSession.isSome then refuse s .busy
    else
      accept (s.setSession (some (s.newSession src startTimeout.toNat endGap.toNat maxEntries.toNat)))
        (.captureChange (s.capture.map Session.state) s.captureEntries (some .armed))

/-- CAPTURE STOP (R151). -/
def captureStop (s : State) : Answer :=
  accept (s.setSession none) (.captureChange (s.capture.map Session.state) s.captureEntries none)

/-- The band of a settled estimate (R149). -/
def Estimate.band : Estimate → Option Band
  | .present period _ => some (bandOfPeriod period)
  | _ => Option.none

/-- What CAPTURE QUERY reports (R152). That in IDLE the entry count is 0 and both flags are no, beside an absent estimate,
is the model's choice (log 33). -/
def captureReport : Option Session → CaptureReport
  | none => { state := none, limits := none, entries := 0, saturated := false, truncated := false, startTime := none, estimate := none }
  | some c =>
    { state := some c.state, limits := some (c.source, c.startTimeout, c.endGap, c.maxEntries), entries := c.list.length
      saturated := c.saturated, truncated := c.truncated, startTime := c.startTime
      estimate := some (c.estimate, c.estimate.band) }

/-- CAPTURE QUERY (R152). -/
def captureQuery (s : State) : Answer := accept s (.captureQuery (captureReport s.capture))

/-- The list of a session in DONE, or in FAILED with cause STUCK, can be read (R153 check 2). -/
def Session.readable (c : Session) : Bool := decide (c.state = .done) || decide (c.state = .failed .stuck)

/-- CAPTURE READ (R153). -/
def captureRead (offset : Half) (count : Byte) (s : State) : Answer :=
  if count.toNat < 1 ∨ 24 < count.toNat then refuse s .badField
  else match s.capture.filter Session.readable with
    | none => refuse s .badState
    | some c =>
      if offset.toNat < c.list.length then
        accept s (.captureRead offset.toNat ((c.list.drop offset.toNat).take count.toNat))
      else refuse s .badField

end Sys2Proof.Machine
end

