-- ==== Sys2Proof/Machine/Carrier.lean ====
section
/-!
DEFINITION. Time Base and Carrier Pool (chapter 4): obtaining and releasing a carrier, what a generator's halves do to
the outputs, TIME QUERY and CARRIER QUERY.
-/
namespace Sys2Proof.Machine

/-! ### Obtaining and releasing (R67, R70) -/

/-- Share (R67 step 1): the zone joins, the waveform runs on. -/
def Generator.share (g : Generator) (z : Fin 8) : Generator :=
  { g with refCount := g.refCount + 1, bound := g.bound ++ [z] }

/-- Start (R67 step 2, R66): the setting is overwritten and a high half starts now. -/
def Generator.begin (c : Setting) (z : Fin 8) (now : Nat) : Generator :=
  { wave := some { high := true, start := now, stop := now + c.high }, setting := some c, refCount := 1, bound := [z] }

/-- The generator a carrier of this setting is obtained from (R67): a RUNNING one of that setting, else the
lowest-numbered FREE one. -/
def State.obtainable (s : State) (c : Setting) : Option (Fin 4) :=
  match allGenerators.find? fun g => (s.generator g).running && decide ((s.generator g).setting = some c) with
  | some g => some g
  | none => allGenerators.find? fun g => !(s.generator g).running

/-- The zone obtains the carrier from that generator (R67). -/
def State.obtain (s : State) (g : Fin 4) (c : Setting) (z : Fin 8) : State :=
  s.setGenerator g (if (s.generator g).running then (s.generator g).share z else Generator.begin c z s.ticks)

/-- R70: the count falls by 1 and the zone leaves; at 0 the generator is FREE at once and keeps its setting. -/
def Generator.release (g : Generator) (z : Fin 8) : Generator :=
  { g with refCount := g.refCount - 1, bound := g.bound.erase z, wave := if g.refCount ≤ 1 then none else g.wave }

/-- Release the binding of a zone's active job, if it has one (R70). -/
def State.releaseBinding (s : State) (z : Fin 8) (binding : Option (Fin 4)) : State :=
  match binding with
  | none => s
  | some g => s.setGenerator g ((s.generator g).release z)

/-! ### The gate and the high halves (R84) -/

/-- A high half that the zone's output is still emitting at this instant. -/
def Emission.runs (e : Emission) (now : Nat) : Bool := decide (now < e.stop)

/-- The zone emits a high half of its generator that begins now, unless an earlier one is still completing (R70). -/
def Zone.emit (zn : Zone) (now stop : Nat) : Zone :=
  if zn.emission.any fun e => e.runs now then zn
  else { zn with emission := some { start := now, stop := stop, dark := zn.config.dark } }

/-- The gate opens: a high half that begins at this very instant counts as begun while open (R84). -/
def State.openGate (s : State) (z : Fin 8) : State :=
  match (s.zone z).binding with
  | none => s
  | some g =>
    match (s.generator g).wave with
    | none => s
    | some w => if w.high && decide (w.start = s.ticks) then s.updZone z fun zn => zn.emit s.ticks w.stop else s

/-- The gate closes by a normal end or an IMMEDIATE cancel: a high half in progress runs to its end, and one that begins
at this very instant counts as begun while closed (R84). -/
def State.closeGate (s : State) (z : Fin 8) : State :=
  s.updZone z fun zn => { zn with emission := zn.emission.filter fun e => decide (e.start ≠ s.ticks) }

/-- A fault, a zone reset or an engine reset cuts the output at once (R84, R118, R122). -/
def State.cutOutput (s : State) (z : Fin 8) : State := s.updZone z fun zn => { zn with emission := none }

/-- The gate has moved, or not, from how it stood (R81: no change between phases of one kind). -/
def State.gateMoved (s : State) (z : Fin 8) (wasOpen : Bool) : State :=
  if wasOpen = (s.zone z).gateOpen then s else if wasOpen then s.closeGate z else s.openGate z

/-! ### Halves of a generator (R66, R84) -/

/-- A high half of generator g begins now at a zone: emitted if the zone is bound to g and its gate is open. -/
def Zone.highBegins (g : Fin 4) (now stop : Nat) (zn : Zone) : Zone :=
  if zn.binding = some g && zn.gateOpen then zn.emit now stop else zn

/-- A high half of generator g ends now at a zone: an output that has run its width goes inactive. -/
def Zone.highEnds (g : Fin 4) (now : Nat) (zn : Zone) : Zone :=
  if zn.binding = some g then { zn with emission := zn.emission.filter fun e => e.runs now } else zn

/-- A high half of generator g begins: every zone bound to it whose gate is open emits it whole (R84). -/
def State.startHigh (s : State) (g : Fin 4) (c : Setting) : State :=
  let gen := s.generator g
  let s1 := s.setGenerator g { gen with wave := some { high := true, start := s.ticks, stop := s.ticks + c.high } }
  { s1 with zones := mapVector (Zone.highBegins g s.ticks (s.ticks + c.high)) s1.zones }

/-- A high half of generator g ends: it turns to its low half, and the outputs that emitted it go inactive. -/
def State.startLow (s : State) (g : Fin 4) (c : Setting) : State :=
  let gen := s.generator g
  let s1 := s.setGenerator g { gen with wave := some { high := false, start := s.ticks, stop := s.ticks + c.low } }
  { s1 with zones := mapVector (Zone.highEnds g s.ticks) s1.zones }

/-- HIGH_HALF_START (R66, R84): a RUNNING generator in its low half. -/
def highHalfStart (g : Fin 4) (s : State) : State :=
  match (s.generator g).wave, (s.generator g).setting with
  | some w, some c => if w.high then s else (s.advance w.stop).startHigh g c
  | _, _ => s

/-- HIGH_HALF_END (R70, R84): of a generator in its high half, or of a high half an Emitter Driver holds. -/
def highHalfEnd (owner : HalfOwner) (s : State) : State :=
  match owner with
  | .generator g =>
    match (s.generator g).wave, (s.generator g).setting with
    | some w, some c => if w.high then (s.advance w.stop).startLow g c else s
    | _, _ => s
  | .driver z =>
    match (s.zone z).emission with
    | some e => (s.advance e.stop).cutOutput z
    | none => s

/-! ### Requests -/

/-- TIME QUERY (R64). -/
def timeQuery (s : State) : Answer := accept s (.timeQuery s.timeBase)

/-- What CARRIER QUERY reports of a generator (R73). -/
def carrierReport (g : Generator) : CarrierReport :=
  { running := g.running, setting := g.setting, period := g.setting.map Setting.period
    band := g.setting.map fun c => bandOfPeriod c.period, refCount := g.refCount
    bound := mapVector (fun z => decide (z ∈ g.bound)) #v[0, 1, 2, 3, 4, 5, 6, 7] }

/-- CARRIER QUERY (R73). -/
def carrierQuery (s : State) : Answer := accept s (.carrierQuery (mapVector carrierReport s.generators))

end Sys2Proof.Machine
end

