-- ==== Sys2Proof/Machine/Zones.lean ====
section
/-!
DEFINITION. Zones, jobs and completions (chapter 2): activation, the end of a job, submission, configuration, taking
completion records, reading a zone.
-/
namespace Sys2Proof.Machine

/-! ### Activation (R35 to R37) -/

/-- The activation condition (R35). -/
def Zone.mayActivate (z : Zone) : Bool :=
  z.config.enabled && z.active.isNone && decide (z.condition = .normal) && z.quietEnd.isNone && !z.queue.isEmpty
    && decide (z.completions.length < Config.completionCapacity)

/-- Frames target at activation (R22): 1 + repeats, or the hold limit in effect (R21). -/
def framesTarget (mode : JobMode) (t : Template) : Nat :=
  match mode with
  | .tap r => 1 + r
  | .hold o => o.getD t.holdLimit

/-- The active job a queued job becomes (R22). -/
def Job.activate (j : Job) (t : Template) : ActiveJob :=
  { job := j, framesStarted := 0, framesTarget := framesTarget j.mode t, cancelAfterFrame := false
    firstFrameStart := none, binding := none, play := none }

/-- The record of a job that ends INCOMPATIBLE (R36). -/
def incompatibleRecord (j : Job) (now : Word) : Completion :=
  { tag := j.tag, template := j.template, origin := j.origin, hold := j.mode.isHold, outcome := .incompatible
    framesStarted := 0, firstFrameStart := none, endTime := now }

/-- The toggle bit of a toggled template flips (R37 step 1, R39). -/
def Zone.flip (z : Zone) (i : Fin 64) (toggled : Bool) : Zone :=
  if toggled then { z with toggles := z.toggles.set i (!z.toggles[i]) } else z

/-- The head job of the queue ends INCOMPATIBLE (R36). -/
def State.endIncompatible (s : State) (z : Fin 8) (j : Job) (rest : List Job) : State :=
  (s.updZone z fun zn =>
    { zn with queue := rest, completions := zn.completions ++ [incompatibleRecord j s.timeBase] }).dropUse j.template

/-- The head job of the queue becomes the active job and the zone joins the waiting list (R37). -/
def State.beginWaiting (s : State) (z : Fin 8) (j : Job) (rest : List Job) : State :=
  let t := s.template j.template
  let s1 := s.updZone z fun zn => { zn.flip j.template t.toggled with queue := rest, active := some (j.activate t) }
  { s1 with arbiter := { s1.arbiter with waiting := s1.arbiter.waiting ++ [z] } }

/-- One activation of the head job (R36, R37). -/
def State.activateHead (s : State) (z : Fin 8) : State :=
  match (s.zone z).queue with
  | [] => s
  | j :: rest =>
    if (s.zone z).config.effective.has (s.template j.template).band then s.beginWaiting z j rest
    else s.endIncompatible z j rest

/-- Activations in one event, until a job waits or the condition fails (R36). -/
def State.activations : Nat → Fin 8 → State → State
  | 0, _, s => s
  | n + 1, z, s => if (s.zone z).mayActivate then State.activations n z (s.activateHead z) else s

/-- The activation condition of the zone is tested (R35). Each activation takes a job from the queue. -/
def State.considerActivation (s : State) (z : Fin 8) : State := State.activations (s.zone z).queue.length z s

/-! ### The end of a job (R26, R55, R92) -/

/-- The completion record of an active job (R26). -/
def ActiveJob.record (a : ActiveJob) (outcome : JobOutcome) (endTime : Word) : Completion :=
  { tag := a.job.tag, template := a.job.template, origin := a.job.origin, hold := a.job.mode.isHold, outcome := outcome
    framesStarted := a.framesStarted, firstFrameStart := a.firstFrameStart, endTime := endTime }

/-- The zone leaves the waiting list, its group lock is freed, its binding released (R50, R51, R55, R70). -/
def State.giveBack (s : State) (z : Fin 8) (binding : Option (Fin 4)) : State :=
  let s1 := s.releaseBinding z binding
  { s1 with arbiter := { s1.arbiter with
      waiting := s1.arbiter.waiting.filter fun w => decide (w ≠ z)
      locks := mapVector (fun l => if l = some z then none else l) s1.arbiter.locks } }

/-- The active job of the zone ends with an outcome: its record is written, what it held is given back, the use count
falls by 1, its play state goes with it (R26, R55, R92). The zone's next activation is considered by the caller. -/
def State.endJob (s : State) (z : Fin 8) (outcome : JobOutcome) (endTime : Word) : State :=
  match (s.zone z).active with
  | none => s
  | some a =>
    ((s.updZone z fun zn =>
        { zn with active := none, completions := zn.completions ++ [a.record outcome endTime] }).giveBack z a.binding).dropUse
      a.job.template

/-! ### JOB SUBMIT (R33, R34) and the trigger submission (R131) -/

/-- Checks 2 to 8 of R33, in order; a job's payload length and template are judged against the installed template. -/
def State.judge (s : State) (z : Fin 8) (template : Fin 64) (payloadLength : Nat) (tag : Half) : Option Status :=
  if !(s.zone z).config.enabled then some .zoneDisabled
  else if (s.zone z).quietEnd.isSome then some .busy
  else match (s.slot template).template with
    | none => some .noTemplate
    | some t =>
      if payloadLength ≠ dataBits t.main then some .badPayload
      else if !(s.zone z).config.effective.has t.band then some .incompatible
      else if (s.zone z).tagInUse tag then some .duplicateTag
      else if Config.queueCapacity ≤ (s.zone z).queue.length then some .queueFull
      else none

/-- An accepted job joins the tail of the queue, the use count rises by 1, and the activation condition is tested
(R34, R131). -/
def State.enqueue (s : State) (z : Fin 8) (j : Job) : State :=
  ((s.updZone z fun zn => { zn with queue := zn.queue ++ [j] }).addUse j.template).considerActivation z

/-- The override lies from 1 + minimum repeats to the template's hold limit, when both are there (R33 check 1). -/
def overrideFits (mode : JobMode) (t : Option Template) : Bool :=
  match mode, t with
  | .hold (some o), some t => decide (1 + t.minRepeats ≤ o ∧ o ≤ t.holdLimit)
  | _, _ => true

/-- The job of a submit record whose fields have passed check 1. -/
def submittedJob (r : JobSubmitRecord) (template : Fin 64) (mode : JobMode) : Job :=
  { tag := r.tag, template := template, mode := mode, payload := payloadBits r.payloadLength.toNat r.payload
    origin := .host, released := false }

/-- JOB SUBMIT (R33, R34). -/
def jobSubmit (r : JobSubmitRecord) (s : State) : Answer :=
  match index? 8 r.zone, index? 64 r.template, jobMode? r.mode r.repeats r.override with
  | some z, some i, some mode =>
    if 64 < r.payloadLength.toNat ∨ overrideFits mode (s.slot i).template = false then refuse s .badField
    else match s.judge z i r.payloadLength.toNat r.tag with
      | some status => refuse s status
      | none =>
        let s1 := s.enqueue z (submittedJob r i mode)
        accept s1 (.jobSubmit z r.tag ((s.zone z).queue.length + 1) (s1.zone z).state)
  | _, _, _ => refuse s .badField

/-! ### ZONE SETUP (R29, R30) -/

/-- The optional fields of a ZONE SETUP whose values are defined. -/
structure SetupFields where
  enabled : Option Bool
  bands : Option BandSet
  group : Option (Option (Fin 4))
  dark : Option Bool
  deriving DecidableEq, Repr

/-- Each present field holds a defined value (R29 check 1). -/
def setupFields? (enabled bands group dark : Byte) : Option SetupFields :=
  match optionalField yesNo? enabled, optionalField bandSet? bands, optionalField group? group, optionalField yesNo? dark with
  | some e, some b, some g, some d => some ⟨e, b, g, d⟩
  | _, _, _, _ => none

/-- The configuration with the present fields applied together (R29). -/
def ZoneConfig.apply (c : ZoneConfig) (f : SetupFields) : ZoneConfig :=
  { c with enabled := f.enabled.getD c.enabled, hostBands := f.bands.getD c.hostBands, group := f.group.getD c.group
           dark := f.dark.getD c.dark }

/-- A change that a queued or active job holds back (R29 checks 2 and 3). -/
def Zone.setupBusy (z : Zone) (c : ZoneConfig) : Bool :=
  (z.config.enabled && !c.enabled && !(z.active.isNone && z.queue.isEmpty))
    || ((decide (c.group ≠ z.config.group) || decide (c.dark ≠ z.config.dark)) && z.active.isSome)

/-- ZONE SETUP (R29, R30). -/
def zoneSetup (zone enabled bands group dark : Byte) (s : State) : Answer :=
  match index? 8 zone, setupFields? enabled bands group dark with
  | some z, some f =>
    let c := (s.zone z).config.apply f
    if (s.zone z).setupBusy c then refuseWith s .busy (.zoneBusy (s.zone z).state (s.zone z).queue.length)
    else
      let s1 := s.updZone z fun zn => { zn with config := c }
      accept s1 (.zoneSetup c c.effective (s1.zone z).state)
  | _, _ => refuse s .badField

/-! ### COMPLETION TAKE (R40) -/

/-- The head record leaves the list and the activation condition is tested (R40, R165). -/
def State.takeHead (s : State) (z : Fin 8) : State :=
  (s.updZone z fun zn => { zn with completions := zn.completions.tail }).considerActivation z

/-- COMPLETION TAKE (R40). -/
def completionTake (zone : Byte) (s : State) : Answer :=
  match index? 8 zone with
  | none => refuse s .badField
  | some z =>
    match (s.zone z).completions with
    | [] => refuse s .nothingPending
    | record :: rest => accept (s.takeHead z) (.completion record rest.length ((s.takeHead z).zone z).state)

/-! ### ZONE QUERY (R42, R43) -/

/-- The active job part of a ZONE QUERY reply (R42). -/
def activeReport (a : ActiveJob) : ActiveReport :=
  { tag := a.job.tag, template := a.job.template, hold := a.job.mode.isHold, origin := a.job.origin
    framesStarted := a.framesStarted, framesTarget := a.framesTarget, released := a.job.released
    cancelAfterFrame := a.cancelAfterFrame, list := a.play.map PlayState.list
    frameNumber := a.play.map PlayState.frameNumber, binding := a.binding }

/-- What ZONE QUERY reports (R42). -/
def zoneReport (z : Zone) : ZoneReport :=
  { state := z.state, config := z.config, effective := z.config.effective, tags := z.queue.map Job.tag
    active := z.active.map activeReport, completions := z.completions.length, condition := z.condition
    openSeen := z.openSeen, overloadSeen := z.overloadSeen, toggles := z.toggles }

/-- ZONE QUERY (R42): the reply that carries the latched flags clears both (R43). -/
def zoneQuery (zone : Byte) (s : State) : Answer :=
  match index? 8 zone with
  | none => refuse s .badField
  | some z =>
    accept (s.updZone z fun zn => { zn with openSeen := false, overloadSeen := false }) (.zoneQuery (zoneReport (s.zone z)))

end Sys2Proof.Machine
end

