-- ==== Sys2Proof/Machine/Notice.lean ====
section
/-!
DEFINITION. The Notification Controller's requests (chapter 10): NOTICE FETCH, NOTICE PEEK, NOTICE ACK, NOTICE SETUP.
Deliverability, the pick and ATTN are in Machine/Flags.lean.
-/
namespace Sys2Proof.Machine

/-- The in-service list becomes this. -/
def State.setService (s : State) (entries : List ServiceEntry) : State :=
  { s with notices := { s.notices with inService := entries } }

/-! ### Delivering a source (R165) -/

/-- The order of the pairs of a FAULT notice: by zone, OPEN before OVERLOAD (R165). -/
def allFaultPairs : List (Fin 8 × FaultKind) := allZones.flatMap fun z => [(z, .openLoad), (z, .overload)]

def LinkCauses.clear : LinkCauses := { check := false, truncated := false, length := false, overrun := false }

/-- The action of a delivery on its source (R165): the head record leaves, or the latch is cleared. -/
def State.deliver (s : State) : Source → State
  | .engine => { s with notices := { s.notices with engineLatch := none } }
  | .fault => { s with notices := { s.notices with faultLatch := [] } }
  | .link => { s with notices := { s.notices with linkLatch := LinkCauses.clear } }
  | .capture => { s with notices := { s.notices with captureLatch := none } }
  | .trigger => { s with notices := { s.notices with triggerLatch := Vector.replicate 4 none } }
  | .zone z => s.takeHead z

/-- What the notice of a source carries (R165), of a source that is pending; none otherwise. -/
def State.noticeBody (s : State) : Source → Option NoticeBody
  | .engine => s.notices.engineLatch.map .engine
  | .fault => some (.fault (allFaultPairs.filter fun p => decide (p ∈ s.notices.faultLatch)))
  | .link => some (.link s.notices.linkLatch)
  | .capture => s.notices.captureLatch.map .capture
  | .trigger => some (.trigger s.notices.triggerLatch)
  | .zone z => match (s.zone z).completions with
    | [] => none
    | record :: rest => some (.zone record rest.length ((s.takeHead z).zone z).state)

/-- The in-service list after a fetch that claims the source or leaves it unclaimed (R163, R164). -/
def State.claim (s : State) (n : Source) (claimed : Bool) : List ServiceEntry :=
  if claimed then s.notices.inService ++ [{ source := n, priority := (s.setting n).priority }] else s.notices.inService

/-- A source is delivered, claimed or not (R163 to R165). A source with no notice is not pending. -/
def State.fetch (s : State) (n : Source) (claimed : Bool) : Answer :=
  match s.noticeBody n with
  | none => refuse s .nothingPending
  | some body =>
    accept ((s.deliver n).setService (s.claim n claimed))
      (.notice { source := n, claimed := if claimed then some (s.setting n).priority else none
                 inService := (s.claim n claimed).length } body)

/-- NOTICE FETCH (R163, R164). -/
def noticeFetch (source : Option Byte) (s : State) : Answer :=
  match source with
  | none =>
    match s.pick with
    | none => refuse s .nothingPending
    | some n => s.fetch n true
  | some b =>
    match source? b with
    | none => refuse s .badField
    | some n =>
      if s.sourcePending n && !s.inService n then s.fetch n (s.nests (s.setting n).priority)
      else refuseWith s .nothingPending (.noticeNone (s.sourcePending n) (s.inService n))

/-! ### NOTICE PEEK (R167) -/

def sourceReport (s : State) (n : Source) : SourceReport :=
  { pending := s.sourcePending n, masked := (s.setting n).masked, priority := (s.setting n).priority, inService := s.inService n }

/-- NOTICE PEEK (R167). -/
def noticePeek (s : State) : Answer :=
  accept s (.noticePeek (allSources.map (sourceReport s)) s.notices.inService s.pick s.notices.threshold s.attn)

/-! ### NOTICE ACK (R168) -/

/-- The reply of an acknowledgement, and the entry's removal (R168). -/
def State.acknowledge (s : State) (entry : ServiceEntry) (rest : List ServiceEntry) : Answer :=
  let s1 := s.setService rest
  accept s1 (.noticeAck entry rest.length s1.pick s1.attn)

/-- The entry of the lowest recorded priority number, the later of two equal ones: by the order of the list, its tail
(R160, R168). -/
def lowestEntry : List ServiceEntry → Option ServiceEntry
  | [] => none
  | e :: rest => match lowestEntry rest with
    | none => some e
    | some m => some (if m.priority ≤ e.priority then m else e)

/-- NOTICE ACK (R168). -/
def noticeAck (source : Option Byte) (s : State) : Answer :=
  match source with
  | none =>
    match lowestEntry s.notices.inService with
    | none => refuse s .notInService
    | some e => s.acknowledge e (s.notices.inService.erase e)
  | some b =>
    match source? b with
    | none => refuse s .badField
    | some n =>
      match s.notices.inService.find? fun e => decide (e.source = n) with
      | none => refuse s .notInService
      | some e => s.acknowledge e (s.notices.inService.erase e)

/-! ### NOTICE SETUP (R169) -/

/-- The present fields of a source entry whose values are defined. -/
structure SourceChange where
  source : Source
  priority : Option (Fin 8)
  masked : Option Bool
  deriving DecidableEq, Repr

/-- The source number is at most 12, a present priority at most 7, a present mask defined (R169). -/
def sourceChange? (e : SourceEntry) : Option SourceChange :=
  match source? e.source, optionalField (index? 8) e.priority, optionalField yesNo? e.mask with
  | some n, some p, some m => some ⟨n, p, m⟩
  | _, _, _ => none

/-- Every entry stands for a change, or the request is refused (R169). -/
def sourceChanges? : List SourceEntry → Option (List SourceChange)
  | [] => some []
  | e :: rest => match sourceChange? e, sourceChanges? rest with
    | some c, some cs => some (c :: cs)
    | _, _ => none

/-- The settings of the source become what the entry's present fields say (R169). -/
def applyChange (settings : Vector SourceSetting 13) (c : SourceChange) : Vector SourceSetting 13 :=
  settings.set c.source.number
    { priority := c.priority.getD settings[c.source.number].priority, masked := c.masked.getD settings[c.source.number].masked }

/-- NOTICE SETUP (R169). -/
def noticeSetup (threshold : Byte) (entries : List SourceEntry) (s : State) : Answer :=
  match optionalField (index? 9) threshold, sourceChanges? entries with
  | some t, some cs =>
    if (cs.map SourceChange.source).Nodup then
      let s1 := { s with notices := { s.notices with
        threshold := t.getD s.notices.threshold, settings := cs.foldl applyChange s.notices.settings } }
      accept s1 (.noticeSetup s1.notices.threshold s1.notices.settings s1.pick s1.attn)
    else refuse s .badField
  | _, _ => refuse s .badField

end Sys2Proof.Machine
end

