-- ==== Sys2Proof/WellFormed.lean ====
section
/-!
DEFINITION. Which commands can be written as a frame of the link: the body lengths of R178. What is left to check in
a well-formed command are the values of its fields, and the owning blocks check those.
-/
namespace Sys2Proof

/-- Bytes that a payload of this stated length needs: the length divided by 8, rounded up (R178). -/
abbrev payloadBytes (length : Byte) : Nat := (length.toNat + 7) / 8

/-- The body of the request has a length R178 accepts. Requests of fixed size always do. -/
def Request.lengthOk : Request → Bool
  | .templateAppend _ elements => decide (1 ≤ elements.length ∧ elements.length ≤ 12)
  | .jobSubmit r => decide (r.payload.length = payloadBytes r.payloadLength)
  | .triggerBind _ (some b) => decide (b.payload.length = payloadBytes b.payloadLength)
  | .noticeSetup _ entries => decide (entries.length ≤ 13)
  | _ => true

/-- A command that the link or the pins can present: list operands have a length R178 accepts. -/
def Instr.wellFormed : Instr → Bool
  | .templateAppend _ selector elements => (Request.templateAppend selector elements).lengthOk
  | .jobSubmit _ r => (Request.jobSubmit r).lengthOk
  | .triggerBind _ line b => (Request.triggerBind line b).lengthOk
  | .noticeSetup _ t entries => (Request.noticeSetup t entries).lengthOk
  | _ => true

end Sys2Proof
end

