-- ==== Sys2Proof/Machine/Layouts.lean ====
section
/-!
DEFINITION. The bytes of the link: the check sequence (R172), request bodies read and written (Tables 11-2 to 11-5,
R178), and the bytes of replies: those the manual states (section 11.7, R180) and free ones for the rest (log 6).
-/
namespace Sys2Proof.Machine

/-! ### The check sequence (R172) -/

/-- One bit of the register: it shifts toward its high end, and a bit that leaves brings in the polynomial 1021h. -/
def crcShift (crc : Half) : Half := if crc.getLsbD 15 then (crc <<< 1) ^^^ 0x1021#16 else crc <<< 1

/-- A byte enters the register, most significant bit first. -/
def crcByte (crc : Half) (b : Byte) : Half :=
  crcShift (crcShift (crcShift (crcShift (crcShift (crcShift (crcShift (crcShift (crc ^^^ (b ++ 0x00#8)))))))))

/-- The check value over these bytes from the start value FFFFh. -/
def crcOf (bytes : List Byte) : Half := bytes.foldl crcByte 0xFFFF#16

/-! ### Little-endian fields (00_scope.md section 4.5) -/

def lowByte (h : Half) : Byte := h.extractLsb' 0 8
def highByte (h : Half) : Byte := h.extractLsb' 8 8
def halfOf (low high : Byte) : Half := high ++ low
def halfBytes (h : Half) : List Byte := [lowByte h, highByte h]
def wordOf (b0 b1 b2 b3 : Byte) : Word := halfOf b2 b3 ++ halfOf b0 b1
def wordBytes (w : Word) : List Byte := halfBytes (w.extractLsb' 0 16) ++ halfBytes (w.extractLsb' 16 16)

/-- A frame (Table 11-1): start byte, length, body, check sequence high byte first. -/
def frameOf (body : List Byte) : List Byte :=
  let n : Byte := BitVec.ofNat 8 body.length
  [0xC3#8, n] ++ body ++ [highByte (crcOf (n :: body)), lowByte (crcOf (n :: body))]

/-! ### Request codes -/

/-- The code of a request, as its rule gives it. -/
def requestCode : Request → Byte
  | .identify => 0x01#8
  | .engineReset => 0x02#8
  | .templateBegin _ _ => 0x10#8
  | .templateAppend _ _ => 0x11#8
  | .templateCommit => 0x12#8
  | .templateAbandon => 0x13#8
  | .templateDelete _ => 0x14#8
  | .templateQuery _ _ => 0x15#8
  | .libraryQuery => 0x16#8
  | .zoneSetup _ _ _ _ _ => 0x20#8
  | .zoneQuery _ => 0x21#8
  | .zoneReset _ => 0x22#8
  | .faultClear _ => 0x23#8
  | .jobSubmit _ => 0x28#8
  | .jobRelease _ _ => 0x29#8
  | .jobCancel _ _ _ => 0x2A#8
  | .zoneFlush _ _ => 0x2B#8
  | .completionTake _ => 0x2C#8
  | .slotPlan _ _ => 0x30#8
  | .slotQuery _ => 0x31#8
  | .carrierQuery => 0x34#8
  | .timeQuery => 0x35#8
  | .triggerBind _ _ => 0x38#8
  | .triggerQuery _ => 0x39#8
  | .captureArm _ _ _ _ _ => 0x40#8
  | .captureStop => 0x41#8
  | .captureQuery => 0x42#8
  | .captureRead _ _ => 0x43#8
  | .noticeFetch _ => 0x48#8
  | .noticePeek => 0x49#8
  | .noticeAck _ => 0x4A#8
  | .noticeSetup _ _ => 0x4B#8

/-- The code of ENGINE RESET (R182). -/
def engineResetCode : Byte := 0x02#8

/-! ### Reading request fields (R178): none is a body of the wrong length -/

/-- Element records, four bytes each (Table 11-4). -/
def readElements : List Byte → Option (List ElementRecord)
  | [] => some []
  | k :: c :: d0 :: d1 :: rest =>
    (readElements rest).map fun es => { kind := k, count := c, duration := halfOf d0 d1 } :: es
  | _ => none

/-- Source entries, three bytes each (R169). -/
def readEntries : List Byte → Option (List SourceEntry)
  | [] => some []
  | n :: p :: m :: rest => (readEntries rest).map fun es => { source := n, priority := p, mask := m } :: es
  | _ => none

/-- A template header record, 21 bytes (Table 11-3). -/
def readHeader : List Byte → Option TemplateHeader
  | [ch, cl, zm0, zm1, zs0, zs1, om0, om1, os0, os1, l0, l1, l2, l3, r0, r1, r2, r3, mr, h0, h1] =>
    some { carrierHigh := ch, carrierLow := cl, zeroMark := halfOf zm0 zm1, zeroSpace := halfOf zs0 zs1
           oneMark := halfOf om0 om1, oneSpace := halfOf os0 os1, leadPeriod := wordOf l0 l1 l2 l3
           repeatPeriod := wordOf r0 r1 r2 r3, minRepeats := mr, holdLimit := halfOf h0 h1 }
  | _ => none

/-- A job submit record (Table 11-5); the payload bytes are what is left of the body. -/
def readJob : List Byte → Option JobSubmitRecord
  | z :: t0 :: t1 :: i :: m :: r :: o0 :: o1 :: n :: payload =>
    some { zone := z, tag := halfOf t0 t1, template := i, mode := m, repeats := r, override := halfOf o0 o1
           payloadLength := n, payload := payload }
  | _ => none

/-- The binding of a TRIGGER BIND (R137); the payload bytes are what is left of the body. -/
def readBinding : List Byte → Option BindingRecord
  | z :: i :: m :: r :: t0 :: t1 :: d0 :: d1 :: n :: payload =>
    some { zone := z, template := i, mode := m, repeats := r, tag := halfOf t0 t1, debounce := halfOf d0 d1
           payloadLength := n, payload := payload }
  | _ => none

/-- A slot plan's length and masks, 18 bytes (R48). -/
def readPlan : List Byte → Option Request
  | [l0, l1, a0, a1, b0, b1, c0, c1, d0, d1, e0, e1, f0, f1, g0, g1, h0, h1] =>
    some (.slotPlan (halfOf l0 l1) #v[halfOf a0 a1, halfOf b0 b1, halfOf c0 c1, halfOf d0 d1, halfOf e0 e1, halfOf f0 f1,
      halfOf g0 g1, halfOf h0 h1])
  | _ => none

/-- A body with no fields. -/
def readNone (r : Request) : List Byte → Option Request
  | [] => some r
  | _ => none

/-- A body with one byte. -/
def readOne (f : Byte → Request) : List Byte → Option Request
  | [b] => some (f b)
  | _ => none

/-- A body with two bytes. -/
def readTwo (f : Byte → Byte → Request) : List Byte → Option Request
  | [a, b] => some (f a b)
  | _ => none

/-- A body with an optional byte. -/
def readOptional (f : Option Byte → Request) : List Byte → Option Request
  | [] => some (f none)
  | [b] => some (f (some b))
  | _ => none

/-- What a body stands for (R178). -/
inductive Parsed where
  | unknown
  | badLength
  | request (r : Request)
  deriving DecidableEq, Repr

/-- The fields that were read make a request if their lengths are ones R178 accepts. -/
def parsedOf (r : Option Request) : Parsed :=
  match r with
  | none => .badLength
  | some r => if r.lengthOk then .request r else .badLength

/-- The request a code and its field bytes stand for (R178). -/
def parseFields (code : Byte) (f : List Byte) : Parsed :=
  match code with
  | 0x01#8 => parsedOf (readNone .identify f)
  | 0x02#8 => parsedOf (readNone .engineReset f)
  | 0x10#8 => parsedOf (match f with
      | i :: rest => (readHeader rest).map (.templateBegin i)
      | [] => none)
  | 0x11#8 => parsedOf (match f with
      | sel :: rest => (readElements rest).map (.templateAppend sel)
      | [] => none)
  | 0x12#8 => parsedOf (readNone .templateCommit f)
  | 0x13#8 => parsedOf (readNone .templateAbandon f)
  | 0x14#8 => parsedOf (readOne .templateDelete f)
  | 0x15#8 => parsedOf (readTwo .templateQuery f)
  | 0x16#8 => parsedOf (readNone .libraryQuery f)
  | 0x20#8 => parsedOf (match f with
      | [z, e, b, g, d] => some (.zoneSetup z e b g d)
      | _ => none)
  | 0x21#8 => parsedOf (readOne .zoneQuery f)
  | 0x22#8 => parsedOf (readOne .zoneReset f)
  | 0x23#8 => parsedOf (readOne .faultClear f)
  | 0x28#8 => parsedOf ((readJob f).map .jobSubmit)
  | 0x29#8 => parsedOf (match f with
      | [z, t0, t1] => some (.jobRelease z (halfOf t0 t1))
      | _ => none)
  | 0x2A#8 => parsedOf (match f with
      | [z, t0, t1, m] => some (.jobCancel z (halfOf t0 t1) m)
      | _ => none)
  | 0x2B#8 => parsedOf (readTwo .zoneFlush f)
  | 0x2C#8 => parsedOf (readOne .completionTake f)
  | 0x30#8 => parsedOf (readPlan f)
  | 0x31#8 => parsedOf (readOne .slotQuery f)
  | 0x34#8 => parsedOf (readNone .carrierQuery f)
  | 0x35#8 => parsedOf (readNone .timeQuery f)
  | 0x38#8 => parsedOf (match f with
      | [n] => some (.triggerBind n none)
      | n :: rest => (readBinding rest).map fun b => .triggerBind n (some b)
      | [] => none)
  | 0x39#8 => parsedOf (readOne .triggerQuery f)
  | 0x40#8 => parsedOf (match f with
      | [s, z, t0, t1, g0, g1, m0, m1] => some (.captureArm s z (halfOf t0 t1) (halfOf g0 g1) (halfOf m0 m1))
      | _ => none)
  | 0x41#8 => parsedOf (readNone .captureStop f)
  | 0x42#8 => parsedOf (readNone .captureQuery f)
  | 0x43#8 => parsedOf (match f with
      | [o0, o1, c] => some (.captureRead (halfOf o0 o1) c)
      | _ => none)
  | 0x48#8 => parsedOf (readOptional .noticeFetch f)
  | 0x49#8 => parsedOf (readNone .noticePeek f)
  | 0x4A#8 => parsedOf (readOptional .noticeAck f)
  | 0x4B#8 => parsedOf (match f with
      | t :: rest => (readEntries rest).map (.noticeSetup t)
      | [] => none)
  | _ => .unknown

/-! ### Writing request fields -/

def elementBytes (e : ElementRecord) : List Byte := [e.kind, e.count] ++ halfBytes e.duration

def headerBytes (h : TemplateHeader) : List Byte :=
  [h.carrierHigh, h.carrierLow] ++ halfBytes h.zeroMark ++ halfBytes h.zeroSpace ++ halfBytes h.oneMark
    ++ halfBytes h.oneSpace ++ wordBytes h.leadPeriod ++ wordBytes h.repeatPeriod ++ [h.minRepeats] ++ halfBytes h.holdLimit

def jobBytes (r : JobSubmitRecord) : List Byte :=
  [r.zone] ++ halfBytes r.tag ++ [r.template, r.mode, r.repeats] ++ halfBytes r.override ++ [r.payloadLength] ++ r.payload

def bindingBytes (b : BindingRecord) : List Byte :=
  [b.zone, b.template, b.mode, b.repeats] ++ halfBytes b.tag ++ halfBytes b.debounce ++ [b.payloadLength] ++ b.payload

/-- The field bytes of a request, in the order its rule gives them. -/
def requestFields : Request → List Byte
  | .templateBegin i h => i :: headerBytes h
  | .templateAppend sel es => sel :: es.flatMap elementBytes
  | .templateDelete i => [i]
  | .templateQuery i o => [i, o]
  | .zoneSetup z e b g d => [z, e, b, g, d]
  | .zoneQuery z => [z]
  | .zoneReset z => [z]
  | .faultClear z => [z]
  | .jobSubmit r => jobBytes r
  | .jobRelease z t => [z] ++ halfBytes t
  | .jobCancel z t m => [z] ++ halfBytes t ++ [m]
  | .zoneFlush z a => [z, a]
  | .completionTake z => [z]
  | .slotPlan l ms => halfBytes l ++ ms.toList.flatMap halfBytes
  | .slotQuery b => [b]
  | .triggerBind n none => [n]
  | .triggerBind n (some b) => n :: bindingBytes b
  | .triggerQuery n => [n]
  | .captureArm s z t g m => [s, z] ++ halfBytes t ++ halfBytes g ++ halfBytes m
  | .captureRead o c => halfBytes o ++ [c]
  | .noticeFetch n => n.toList
  | .noticeAck n => n.toList
  | .noticeSetup t es => t :: es.flatMap fun e => [e.source, e.priority, e.mask]
  | .templateCommit => []
  | .templateAbandon => []
  | .libraryQuery => []
  | .carrierQuery => []
  | .timeQuery => []
  | .captureStop => []
  | .captureQuery => []
  | .noticePeek => []
  | .identify => []
  | .engineReset => []

/-- The body of a request frame (Table 11-2). -/
def requestBody (seq : Byte) (r : Request) : List Byte := requestCode r :: seq :: requestFields r

/-! ### Reply bytes -/

/-- Status values (Table 11-9). -/
def statusByte : Status → Byte
  | .ok => 0x00#8
  | .unknown => 0x01#8
  | .badLength => 0x02#8
  | .badField => 0x03#8
  | .busy => 0x04#8
  | .queueFull => 0x05#8
  | .duplicateTag => 0x06#8
  | .noTemplate => 0x07#8
  | .inUse => 0x08#8
  | .noSpace => 0x09#8
  | .incompatible => 0x0A#8
  | .badPayload => 0x0B#8
  | .zoneDisabled => 0x0C#8
  | .notFound => 0x0D#8
  | .notHold => 0x0E#8
  | .already => 0x0F#8
  | .tooLate => 0x10#8
  | .badState => 0x11#8
  | .notInService => 0x12#8
  | .nothingPending => 0x13#8
  | .invalidTemplate => 0x14#8

/-- A number in one byte, in two. -/
def oneByte (n : Nat) : List Byte := [BitVec.ofNat 8 n]
def twoBytes (n : Nat) : List Byte := halfBytes (BitVec.ofNat 16 n)
def yesNoByte (b : Bool) : List Byte := [if b then 0x01#8 else 0x00#8]

/-- A set of members numbered from 0, one bit each. -/
def setNumber (members : List Bool) : Nat := members.foldr (fun b n => (if b then 1 else 0) + 2 * n) 0

/-- Zone states (Table 11-8). -/
def zoneStateByte : ZoneState → Byte
  | .disabled => 0x00#8
  | .idle => 0x01#8
  | .stalled => 0x02#8
  | .waiting => 0x03#8
  | .frame => 0x04#8
  | .interval => 0x05#8
  | .faulted => 0x06#8
  | .resetting => 0x07#8

/-- A band set: bit 0 BASEBAND, bit 1 LF, bit 2 HF (Table 11-8). -/
def bandSetByte (b : BandSet) : Byte := BitVec.ofNat 8 (setNumber [b.baseband, b.lf, b.hf])

/-- A single band (Table 11-8). -/
def bandByte : Band → Byte
  | .baseband => 0x00#8
  | .lf => 0x01#8
  | .hf => 0x02#8

/-- Strap class (Table 11-8). -/
def strapByte : StrapClass → Byte
  | .ir => 0x00#8
  | .wired => 0x01#8

/-- A group or a carrier binding: 00h to 03h, 04h none (Table 11-8). -/
def orNoneByte (n : Option (Fin 4)) : Byte := n.elim 0x04#8 fun i => BitVec.ofNat 8 i.val

/-- A list (Table 11-8: list selector, validation locator). -/
def listByte : ListName → Byte
  | .main => 0x00#8
  | .rep => 0x01#8

/-- Job location (Table 11-8). -/
def locationByte : Location → Byte
  | .active => 0x00#8
  | .queued => 0x01#8

/-- Driver condition (Table 11-8). -/
def conditionByte : Condition → Byte
  | .normal => 0x00#8
  | .openLoad => 0x01#8
  | .overload => 0x02#8

/-- Trigger line state (Table 11-8). -/
def lineStateByte : LineState → Byte
  | .unbound => 0x00#8
  | .waitLow => 0x01#8
  | .armed => 0x02#8
  | .fired => 0x03#8
  | .holding => 0x04#8

/-- Origins (Table 11-6). -/
def originByte : Origin → Byte
  | .host => 0x00#8
  | .trigger n => BitVec.ofNat 8 (n.val + 1)

/-- Outcomes (Table 11-6). -/
def outcomeByte : JobOutcome → Byte
  | .done => 0x00#8
  | .released => 0x01#8
  | .limit => 0x02#8
  | .cancelled => 0x03#8
  | .fault => 0x04#8
  | .incompatible => 0x05#8

/-- A completion record, 16 bytes (Table 11-6). -/
def completionBytes (c : Completion) : List Byte :=
  halfBytes c.tag ++ oneByte c.template.val ++ [originByte c.origin] ++ yesNoByte c.hold ++ [outcomeByte c.outcome]
    ++ twoBytes c.framesStarted ++ wordBytes (c.firstFrameStart.getD 0) ++ wordBytes c.endTime

/-- Capture state (Table 11-8); no session is IDLE. -/
def captureStateByte : Option SessionState → Byte
  | none => 0x00#8
  | some .armed => 0x01#8
  | some .recording => 0x02#8
  | some .done => 0x03#8
  | some (.failed _) => 0x04#8

/-- Capture cause, FFh when absent (Table 11-8). -/
def captureCauseByte : Option SessionState → Byte
  | some (.failed .noSignal) => 0x00#8
  | some (.failed .stuck) => 0x01#8
  | _ => 0xFF#8

/-- Capture source (Table 11-8). -/
def captureSourceByte : CaptureSource → Byte
  | .capd => 0x00#8
  | .capc => 0x01#8
  | .loopback _ => 0x02#8

/-- Engine reset causes (Table 11-8). -/
def resetCauseByte : ResetCause → Byte
  | .power => 0x00#8
  | .pin => 0x01#8
  | .request => 0x02#8

/-- Fault kinds (section 11.7, as the driver conditions). -/
def faultKindByte : FaultKind → Byte
  | .openLoad => 0x01#8
  | .overload => 0x02#8

/-- A notice record header, 4 bytes (Table 11-7). -/
def noticeHeaderBytes (h : NoticeHeader) : List Byte :=
  oneByte h.source.number.val ++ yesNoByte h.claimed.isSome ++ (h.claimed.elim [0xFF#8] fun p => oneByte p.val) ++ oneByte h.inService

/-- The ZCLASS straps in one byte, bit n for Zn (R180). -/
def zclassByte (straps : Vector Bool 8) : Byte := BitVec.ofNat 8 ((allZones.map fun z => if straps[z] then 2 ^ z.val else 0).sum)

/-- The fields of IDENTIFY, 22 bytes (R180). -/
def identifyBytes (r : IdentifyReport) : List Byte :=
  r.vendor ++ r.part ++ [r.revision] ++ oneByte r.zones ++ oneByte r.slots ++ twoBytes r.cells ++ oneByte r.generators
    ++ oneByte r.lines ++ twoBytes r.captureEntries ++ yesNoByte r.baud ++ [zclassByte r.zclass]

/-- Payload bits packed from bit 0 of the first byte (R137, R178). -/
def packBits (bits : List Bool) : List Byte :=
  (List.range ((bits.length + 7) / 8)).map fun i => BitVec.ofNat 8 (setNumber ((bits.drop (8 * i)).take 8))

/-! ### The parts of a reply, in the order its rule lists them (log 7) -/

/-- A part of a reply's fields: bytes that the manual gives (the record layouts and values of section 11.7, and widths a
rule states), or a value, absent or present, whose width or coding it does not give (log 6). -/
inductive Part where
  | stated (bytes : List Byte)
  | unstated (value : Option Nat)
  deriving DecidableEq, Repr

def Part.byte (b : Byte) : Part := .stated [b]
def Part.index {n : Nat} (i : Fin n) : Part := .stated (oneByte i.val)
def Part.half (h : Half) : Part := .stated (halfBytes h)
def Part.two (n : Nat) : Part := .stated (twoBytes n)
def Part.word (w : Word) : Part := .stated (wordBytes w)
def Part.yesNo (b : Bool) : Part := .stated (yesNoByte b)
def Part.state (z : ZoneState) : Part := .byte (zoneStateByte z)
def Part.number (n : Nat) : Part := .unstated (some n)
def Part.set (members : List Bool) : Part := .number (setNumber members)

/-- Parts that the rule has present or absent; how a reply shows their absence, or marks their presence, is not stated. -/
def optionalParts : Option (List Part) → List Part
  | none => [.unstated none]
  | some ps => .unstated (some 1) :: ps

/-- Parts behind a flag that the rule lists. -/
def flaggedParts : Option (List Part) → List Part
  | none => [.yesNo false, .unstated none]
  | some ps => .yesNo true :: ps

/-- A number of tags, and the tags (R42, R113, R122). -/
def tagParts (tags : List Half) : List Part := .number tags.length :: tags.map Part.half

/-- A zone's configuration (R28, R42): enabled, host band set, strap class, effective bands, group, dark. -/
def configParts (c : ZoneConfig) (effective : BandSet) : List Part :=
  [.yesNo c.enabled, .byte (bandSetByte c.hostBands), .byte (strapByte c.strap), .byte (bandSetByte effective)
   , .byte (orNoneByte c.group), .yesNo c.dark]

/-- The active job part of ZONE QUERY (R42). -/
def activeParts (a : ActiveReport) : List Part :=
  [.half a.tag, .index a.template, .yesNo a.hold, .byte (originByte a.origin), .two a.framesStarted, .number a.framesTarget
   , .yesNo a.released, .yesNo a.cancelAfterFrame]
    ++ optionalParts (a.list.map fun l => [.byte (listByte l)]) ++ optionalParts (a.frameNumber.map fun n => [.number n])
    ++ [.byte (orNoneByte a.binding)]

/-- The reason and its locator (R14, Table 11-8): a list and a position, a period, or none. -/
def invalidParts : Invalid → List Part
  | .emptyMain => .stated [0x01#8, 0x00#8] :: optionalParts none
  | .noMark l => .stated [0x02#8, listByte l] :: optionalParts none
  | .dataOver64 p => .stated [0x03#8, 0x00#8] :: optionalParts (some [.number p])
  | .echoExceeds l p => .stated [0x04#8, listByte l] :: optionalParts (some [.number p])
  | .repeatDataExceeds p => .stated [0x05#8, 0x01#8] :: optionalParts (some [.number p])
  | .periodRange .main => .stated [0x06#8, 0x02#8] :: optionalParts none
  | .periodRange .rep => .stated [0x06#8, 0x03#8] :: optionalParts none
  | .holdBelowMin => .stated [0x07#8, 0x04#8] :: optionalParts none

/-- TEMPLATE QUERY (R18): the header record of Table 11-3, the derived facts, the element records of Table 11-4. -/
def templateParts (r : TemplateReport) : List Part :=
  [.stated (headerBytes r.header), .byte (bandByte r.band), .number r.dataBits, .number r.repeatData, .yesNo r.toggled
   , .number r.mainCount, .number r.repeatCount, .number r.useCount, .stated (oneByte r.offset), .number r.elements.length]
    ++ r.elements.map fun e => .stated (elementBytes e)

/-- LIBRARY QUERY (R19). -/
def libraryParts (r : LibraryReport) : List Part :=
  [.number r.used, .number r.free, .number r.count, .set r.installed.toList, .yesNo r.staging.isSome]
    ++ optionalParts (r.staging.map fun (target, main, rep) => [.index target, .number main, .number rep])

/-- ZONE QUERY (R42). -/
def zoneParts (r : ZoneReport) : List Part :=
  .state r.state :: configParts r.config r.effective ++ tagParts r.tags ++ optionalParts (r.active.map activeParts)
    ++ [.number r.completions, .byte (conditionByte r.condition), .yesNo r.openSeen, .yesNo r.overloadSeen
        , .set r.toggles.toList]

/-- The active result of a flush (R113, Table 11-8). -/
def flushParts : FlushResult → List Part
  | .none => .byte 0x00#8 :: optionalParts Option.none ++ optionalParts Option.none
  | .kept tag frames => .byte 0x01#8 :: optionalParts (some [.half tag]) ++ optionalParts (some [.two frames])
  | .pending tag frames => .byte 0x02#8 :: optionalParts (some [.half tag]) ++ optionalParts (some [.two frames])
  | .ended tag frames => .byte 0x03#8 :: optionalParts (some [.half tag]) ++ optionalParts (some [.two frames])

/-- A slot plan as SLOT PLAN carries it (R48). -/
def planParts (p : SlotPlan) : List Part := .two p.length :: p.masks.toList.map Part.half

/-- SLOT QUERY (R59). -/
def slotParts (r : SlotReport) : List Part :=
  .yesNo r.staged :: optionalParts (r.plan.map planParts) ++ [.number r.index.val, .number r.waiting.length]
    ++ r.waiting.flatMap (fun (z, tag, i) => [.index z, .half tag, .index i])
    ++ r.locks.toList.flatMap fun l => optionalParts (l.map fun z => [.index z])

/-- One generator of CARRIER QUERY (R73). -/
def carrierParts (r : CarrierReport) : List Part :=
  .yesNo r.running :: flaggedParts (r.setting.map fun c => [.stated (oneByte c.high), .stated (oneByte c.low)])
    ++ optionalParts (r.period.map fun n => [.number n]) ++ optionalParts (r.band.map fun b => [.byte (bandByte b)])
    ++ [.number r.refCount, .set r.bound.toList]

/-- The mode of a binding and its repeats, which LEVEL HOLD has not (R127, R139). -/
def bindModeParts : BindMode → List Part
  | .edgeTap r => .byte 0x00#8 :: optionalParts (some [.stated (oneByte r)])
  | .edgeRetrigger r => .byte 0x01#8 :: optionalParts (some [.stated (oneByte r)])
  | .levelHold => .byte 0x02#8 :: optionalParts none

/-- A binding, in the order R139 lists it with the widths of R137. -/
def bindingParts (b : Binding) : List Part :=
  [.index b.zone, .index b.template] ++ bindModeParts b.mode
    ++ [.half b.tag, .two b.debounce, .stated (oneByte b.payload.length), .stated (packBits b.payload)]

/-- TRIGGER QUERY (R139); a level is 00h low, 01h high (Table 11-8). -/
def lineParts (r : LineReport) : List Part :=
  [.index r.line, .byte (lineStateByte r.state)] ++ flaggedParts (r.binding.map bindingParts)
    ++ [.yesNo r.taken, .yesNo r.pin, .set [r.debouncing]]

/-- A capture source and, for LOOPBACK, its zone (R152). -/
def captureSourceParts (c : CaptureSource) : List Part :=
  .byte (captureSourceByte c) :: match c with
    | .loopback z => optionalParts (some [.index z])
    | _ => optionalParts none

/-- A carrier estimate (R149, R152, Table 11-8). -/
def estimateParts (e : Estimate) (band : Option Band) : List Part :=
  match e with
  | .pending => .byte 0x00#8 :: optionalParts none
  | .none => .byte 0x01#8 :: optionalParts none
  | .present period k => .byte 0x02#8 :: optionalParts (some ([.number period, .number k]
      ++ optionalParts (band.map fun b => [.byte (bandByte b)])))

/-- CAPTURE QUERY (R152). -/
def captureParts (r : CaptureReport) : List Part :=
  [.byte (captureStateByte r.state), .byte (captureCauseByte r.state)]
    ++ optionalParts (r.limits.map fun (source, _) => captureSourceParts source)
    ++ optionalParts (r.limits.map fun (_, timeout, gap, most) => [.two timeout, .two gap, .two most])
    ++ [.number r.entries, .yesNo r.saturated, .yesNo r.truncated]
    ++ optionalParts (r.startTime.map fun w => [.word w])
    ++ optionalParts (r.estimate.map fun (e, band) => estimateParts e band)

/-- What NOTICE PEEK shows of one source, as a number below 64. -/
def sourceNumber (r : SourceReport) : Nat := setNumber [r.pending, r.masked, r.inService] + 8 * r.priority.val

/-- The thirteen sources of NOTICE PEEK (R167) as one part of unstated coding: a byte for each of their items would not
leave room for the in-service list in a reply that fits (R172; log 6). -/
def sourcesPart (sources : List SourceReport) : Part := .number (sources.foldr (fun r n => sourceNumber r + 64 * n) 0)

/-- The pick, or none, and ATTN (R167 to R169). -/
def pickParts (pick : Option Source) (attn : Bool) : List Part :=
  optionalParts (pick.map fun n => [.index n.number]) ++ [.yesNo attn]

/-- What a notice carries after its header (R165, section 11.7). -/
def noticeParts : NoticeBody → List Part
  | .zone c left st => [.stated (completionBytes c ++ oneByte left ++ [zoneStateByte st])]
  | .fault pairs => [.stated (oneByte pairs.length ++ pairs.flatMap fun (z, k) => oneByte z.val ++ [faultKindByte k])]
  | .link l => [.stated (yesNoByte l.check ++ yesNoByte l.truncated ++ yesNoByte l.length ++ yesNoByte l.overrun)]
  | .capture c => [.byte (captureStateByte (some c.state)), .byte (captureCauseByte (some c.state)), .number c.entries
                   , .yesNo c.saturated, .yesNo c.truncated]
  | .trigger entries => [.stated (entries.toList.map fun e => e.elim 0xFF#8 statusByte)]
  | .engine cause => [.byte (resetCauseByte cause)]

/-- The parts of a reply's fields, in the order the rule of its request lists them (log 7). -/
def replyParts : ReplyFields → List Part
  | .none => []
  | .identify r => [.stated (identifyBytes r)]
  | .templateBegin previous installed useCount =>
    flaggedParts (previous.map fun i => [.index i]) ++ [.yesNo installed, .number useCount]
  | .templateAppend main rep => [.number main, .number rep]
  | .invalidTemplate reason => invalidParts reason
  | .inUse useCount => [.number useCount]
  | .noSpace needed free => [.number needed, .number free]
  | .templateCommit target replaced cells bits band used free =>
    [.index target, .yesNo replaced, .number cells, .number bits, .byte (bandByte band), .number used, .number free]
  | .templateDelete freed used free => [.number freed, .number used, .number free]
  | .templateQuery r => templateParts r
  | .libraryQuery r => libraryParts r
  | .zoneSetup c effective st => configParts c effective ++ [.state st]
  | .zoneBusy st queued => [.state st, .number queued]
  | .zoneQuery r => zoneParts r
  | .zoneReset z active tags records st =>
    .index z :: flaggedParts (active.map fun tag => [.half tag]) ++ tagParts tags ++ [.number records, .state st]
  | .faultClear z cleared queued st => [.index z, .byte (conditionByte cleared), .number queued, .state st]
  | .jobSubmit z tag queued st => [.index z, .half tag, .number queued, .state st]
  | .jobActive z tag frames ended st =>
    [.byte (locationByte .active), .index z, .half tag, .two frames, .yesNo ended, .state st]
  | .releaseQueued z tag place st => [.byte (locationByte .queued), .index z, .half tag, .number place, .state st]
  | .releaseAlready loc frames => .byte (locationByte loc) :: optionalParts (frames.map fun n => [.two n])
  | .notHold loc frames =>
    .byte (locationByte loc) :: optionalParts (frames.map fun (started, target) => [.two started, .number target])
  | .tooLate tag frames endTime => [.half tag, .two frames, .word endTime]
  | .cancelQueued z tag i hold left st =>
    [.byte (locationByte .queued), .index z, .half tag, .index i, .yesNo hold, .number left, .state st]
  | .cancelAlready frames => [.two frames]
  | .zoneFlush z removed result st => .index z :: tagParts removed ++ flushParts result ++ [.state st]
  | .completion c left st => [.stated (completionBytes c ++ oneByte left ++ [zoneStateByte st])]
  | .slotPlan replaced index toCome => [.yesNo replaced, .number index.val, .number toCome]
  | .slotQuery r => slotParts r
  | .carrierQuery r => r.toList.flatMap carrierParts
  | .timeQuery w => [.word w]
  | .triggerBind n removed released st taken =>
    [.index n, .yesNo removed, .yesNo released, .byte (lineStateByte st), .yesNo taken]
  | .triggerQuery r => lineParts r
  | .captureChange before discarded after =>
    [.byte (captureStateByte before), .number discarded] ++ after.toList.map fun st => .byte (captureStateByte (some st))
  | .captureQuery r => captureParts r
  | .captureRead o es => [.stated (twoBytes o ++ oneByte es.length ++ es.flatMap twoBytes)]
  | .notice h b => .stated (noticeHeaderBytes h) :: noticeParts b
  | .noticeNone pending inService => [.yesNo pending, .yesNo inService]
  | .noticePeek sources service pick threshold attn =>
    sourcesPart sources :: .number service.length :: service.flatMap (fun e => [.index e.source.number, .index e.priority])
      ++ optionalParts (pick.map fun n => [.index n.number]) ++ [.index threshold, .yesNo attn]
  | .noticeAck e left pick attn => [.index e.source.number, .index e.priority, .number left] ++ pickParts pick attn
  | .noticeSetup threshold settings pick attn =>
    .index threshold :: settings.toList.flatMap (fun x => [.index x.priority, .yesNo x.masked]) ++ pickParts pick attn

/-- The bytes of a list of parts, of the `n`th reply, from this place on. The free bytes are cut where they would take the
stated ones past `room` (R172: every reply fits). -/
def partsBytes (n : Nat) : (place room : Nat) → List Part → List Byte
  | _, _, [] => []
  | place, room, .stated bs :: rest => bs ++ partsBytes n (place + 1) room rest
  | place, room, .unstated v :: rest =>
    (Config.partBytes n place v).take room ++ partsBytes n (place + 1) (room - ((Config.partBytes n place v).take room).length) rest

/-- The stated bytes among the parts. -/
def statedPart : Part → List Byte
  | .stated bs => bs
  | .unstated _ => []

def Part.isStated : Part → Bool
  | .stated _ => true
  | .unstated _ => false

/-- The field bytes of a reply whose every part is stated; none for the others. -/
def statedBytes (fields : ReplyFields) : Option (List Byte) :=
  if (replyParts fields).all Part.isStated then some ((replyParts fields).flatMap statedPart) else none

/-- The reply code: the request code with 80h added, and unchanged from 80h on (R172, R178). -/
def replyCode (code : Byte) : Byte := if 0x80#8 ≤ code then code else code + 0x80#8

/-- Most field bytes of a reply: a body of 64 without code, sequence number and status (R172). -/
abbrev mostFieldBytes : Nat := 61

/-- The field bytes of the `n`th reply (R172, log 6). The stated bytes of every reply that a run sends fit, so that none of
them is cut (`stated_sublist_fieldBytes`, `statedSize_le`). -/
def fieldBytes (fields : ReplyFields) (n : Nat) : List Byte :=
  (partsBytes n 0 (mostFieldBytes - ((replyParts fields).flatMap statedPart).length) (replyParts fields)).take mostFieldBytes

/-- The body of a reply (Table 11-2). -/
def replyBody (r : Reply) (n : Nat) : List Byte := [r.code, r.seq, statusByte r.status] ++ fieldBytes r.fields n

/-- Ticks that `bytes` bytes take on the line, rounded up to the tick (R171, R177; log 8): ten bit times of 1/115,200 s
(625/9 ticks) or 1/460,800 s (625/36 ticks). -/
def lineTicks (fast : Bool) (bytes : Nat) : Nat := if fast then (bytes * 6250 + 35) / 36 else (bytes * 6250 + 8) / 9

end Sys2Proof.Machine
end

