-- ==== Sys2Proof/Machine/Library.lean ====
section
/-!
DEFINITION. The Code Library's requests (chapter 1): staging, validation, commit, delete, queries.
-/
namespace Sys2Proof.Machine

/-! ### TEMPLATE BEGIN and TEMPLATE APPEND -/

/-- The header checks of R10: widths both 0 or both non-zero, symbol durations at least 1, minimum repeats at most 15,
hold limit 2 to 4,096. -/
def headerOk (h : TemplateHeader) : Bool :=
  decide (h.carrierHigh = 0 ↔ h.carrierLow = 0) && decide (1 ≤ h.zeroMark.toNat) && decide (1 ≤ h.zeroSpace.toNat)
    && decide (1 ≤ h.oneMark.toNat) && decide (1 ≤ h.oneSpace.toNat) && decide (h.minRepeats.toNat ≤ 15)
    && decide (2 ≤ h.holdLimit.toNat) && decide (h.holdLimit.toNat ≤ Config.maxFrames)

def State.setStaging (s : State) (staging : Option Staging) : State :=
  { s with library := { s.library with staging := staging } }

/-- TEMPLATE BEGIN (R10). -/
def templateBegin (index : Byte) (h : TemplateHeader) (s : State) : Answer :=
  match index? 64 index with
  | none => refuse s .badField
  | some i =>
    if headerOk h then
      accept (s.setStaging (some { target := i, header := h, main := [], rep := [] }))
        (.templateBegin (s.library.staging.map Staging.target) (s.slot i).template.isSome (s.slot i).useCount)
    else refuse s .badField

/-- The staged contents with elements added to the tail of one list (R11). -/
def Staging.append (st : Staging) (name : ListName) (elements : List Element) : Staging :=
  match name with
  | .main => { st with main := st.main ++ elements }
  | .rep => { st with rep := st.rep ++ elements }

/-- Neither list is longer than R4 allows. -/
def Staging.fits (st : Staging) : Bool :=
  decide (st.main.length ≤ Config.mainCapacity) && decide (st.rep.length ≤ Config.repeatCapacity)

/-- TEMPLATE APPEND (R11). -/
def templateAppend (selector : Byte) (records : List ElementRecord) (s : State) : Answer :=
  match s.library.staging with
  | none => refuse s .badState
  | some st =>
    match listName? selector, elements? records with
    | some name, some elements =>
      if (st.append name elements).fits then
        accept (s.setStaging (some (st.append name elements)))
          (.templateAppend (st.append name elements).main.length (st.append name elements).rep.length)
      else refuse s .badField
    | _, _ => refuse s .badField

/-- TEMPLATE ABANDON (R12). -/
def templateAbandon (s : State) : Answer :=
  if s.library.staging.isSome then accept (s.setStaging none) .none else refuse s .already

/-! ### Validation (R14) -/

/-- The position of the DATA NEXT element at which the running sum first exceeds the limit. -/
def firstOver (limit : Nat) : (position sum : Nat) → List Element → Option Nat
  | _, _, [] => none
  | p, sum, e :: rest => if limit < sum + e.takes then some p else firstOver limit (p + 1) (sum + e.takes) rest

/-- The position of the first DATA ECHO element whose count is greater than the bits taken there (R5). -/
def firstEcho : (position taken : Nat) → List Element → Option Nat
  | _, _, [] => none
  | p, taken, .dataEcho c :: rest => if taken < c then some p else firstEcho (p + 1) taken rest
  | p, taken, e :: rest => firstEcho (p + 1) (taken + e.takes) rest

/-- A period is 0 or 1,000 to 1,000,000 µs (R3). -/
def periodOk (p : Word) : Bool := decide (p = 0) || decide (1000 ≤ p.toNat ∧ p.toNat ≤ 1000000)

/-- The first check of R14 that the staged contents fail, if any. -/
def validate (st : Staging) : Option Invalid :=
  [ if st.main.isEmpty then some .emptyMain else none,
    if st.main.any Element.bearsMark then none else some (.noMark .main),
    if st.rep.isEmpty || st.rep.any Element.bearsMark then none else some (.noMark .rep),
    (firstOver 64 0 0 st.main).map .dataOver64,
    (firstEcho 0 0 st.main).map (.echoExceeds .main),
    (firstEcho 0 0 st.rep).map (.echoExceeds .rep),
    (firstOver (dataBits st.main) 0 0 st.rep).map .repeatDataExceeds,
    if periodOk st.header.leadPeriod then none else some (.periodRange .main),
    if periodOk st.header.repeatPeriod then none else some (.periodRange .rep),
    if st.header.holdLimit.toNat < 1 + st.header.minRepeats.toNat then some .holdBelowMin else none ].findSome? id

/-! ### TEMPLATE COMMIT and TEMPLATE DELETE -/

/-- The template a staging area holds. -/
def Staging.template (st : Staging) : Template := { header := st.header, main := st.main, rep := st.rep }

/-- Cells of what an index holds now, 0 when EMPTY (R13, R17). -/
def State.cellsAt (s : State) (i : Fin 64) : Nat := (s.slot i).template.elim 0 Template.cells

/-- R15, R16: the template stands at the index, used cells change by the net amount, the toggle bits are cleared. -/
def State.install (s : State) (i : Fin 64) (t : Template) : State :=
  let used := s.library.usedCells + t.cells - s.cellsAt i
  let s1 := (s.setSlot i { template := some t, useCount := (s.slot i).useCount }).clearToggles i
  { s1 with library := { s1.library with usedCells := used, staging := none } }

/-- TEMPLATE COMMIT (R13 to R16). -/
def templateCommit (s : State) : Answer :=
  match s.library.staging with
  | none => refuse s .badState
  | some st =>
    match validate st with
    | some reason => refuseWith s .invalidTemplate (.invalidTemplate reason)
    | none =>
      if (s.slot st.target).useCount ≠ 0 then refuseWith s .inUse (.inUse (s.slot st.target).useCount)
      else if s.library.freeCells + s.cellsAt st.target < st.template.cells then
        refuseWith s .noSpace (.noSpace (st.template.cells - s.cellsAt st.target) s.library.freeCells)
      else
        let s1 := s.install st.target st.template
        accept s1 (.templateCommit st.target (s.slot st.target).template.isSome st.template.cells
          (dataBits st.main) st.template.band s1.library.usedCells s1.library.freeCells)

/-- The slot becomes EMPTY, its cells return to the pool, its toggle bits are cleared (R17, R16). -/
def State.remove (s : State) (i : Fin 64) : State :=
  let used := s.library.usedCells - s.cellsAt i
  let s1 := (s.setSlot i { template := none, useCount := (s.slot i).useCount }).clearToggles i
  { s1 with library := { s1.library with usedCells := used } }

/-- TEMPLATE DELETE (R17). -/
def templateDelete (index : Byte) (s : State) : Answer :=
  match index? 64 index with
  | none => refuse s .badField
  | some i =>
    if (s.slot i).template.isNone then refuse s .noTemplate
    else if (s.slot i).useCount ≠ 0 then refuseWith s .inUse (.inUse (s.slot i).useCount)
    else accept (s.remove i) (.templateDelete (s.cellsAt i) (s.remove i).library.usedCells (s.remove i).library.freeCells)

/-! ### Queries -/

/-- What TEMPLATE QUERY reports of an installed template (R18). -/
def templateReport (t : Template) (useCount offset : Nat) : TemplateReport :=
  { header := t.header, band := t.band, dataBits := dataBits t.main, repeatData := dataBits t.rep, toggled := t.toggled
    mainCount := t.main.length, repeatCount := t.rep.length, useCount := useCount, offset := offset
    elements := (((t.main ++ t.rep).drop offset).take 6).map Element.record }

/-- TEMPLATE QUERY (R18). -/
def templateQuery (index offset : Byte) (s : State) : Answer :=
  match index? 64 index with
  | none => refuse s .badField
  | some i =>
    match (s.slot i).template with
    | none => refuse s .noTemplate
    | some t =>
      if offset.toNat < t.cells then accept s (.templateQuery (templateReport t (s.slot i).useCount offset.toNat))
      else refuse s .badField

/-- What LIBRARY QUERY reports (R19). -/
def libraryReport (l : Library) : LibraryReport :=
  { used := l.usedCells, free := l.freeCells, count := (l.slots.toList.filter fun sl => sl.template.isSome).length
    installed := mapVector (fun sl => sl.template.isSome) l.slots
    staging := l.staging.map fun st => (st.target, st.main.length, st.rep.length) }

/-- LIBRARY QUERY (R19). -/
def libraryQuery (s : State) : Answer := accept s (.libraryQuery (libraryReport s.library))

end Sys2Proof.Machine
end

