-- ==== Sys2Proof/Machine/Reset.lean ====
section
/-!
DEFINITION. Engine reset (R181, R182): its beginning, its release, and the supply and RESET_N events.
-/
namespace Sys2Proof.Machine

/-- A reset of this cause begins, or goes on with this cause (R181): every block takes its reset state at once, and the
straps in force stay until they are sampled at release (log 22). -/
def State.beginReset (s : State) (cause : ResetCause) : State :=
  { s with
    ticks := 0
    assertedReset := some cause
    port := Port.reset s.port.baud s.pins.rxdBusy
    library := Library.reset
    zones := mapVector (fun zn => Zone.reset zn.config.strap) s.zones
    arbiter := Arbiter.reset
    generators := Vector.replicate 4 Generator.reset
    lines := mapVector Line.reset s.pins.trig
    capture := none
    notices := Notices.reset none }

/-- The part is released from the reset it is in (R181): straps sampled, ENGINE latch written, every block at its reset
state. -/
def State.release? (s : State) : State :=
  match s.assertedReset with
  | none => s
  | some cause => { State.released s.pins cause s.freeCount s.pending with supply := s.supply }

/-- SUPPLY_RISE (R181): from below the operating level, a POWER reset begins. -/
def supplyRise (s : State) : State :=
  if s.supply = .below then { s.beginReset .power with supply := .rising } else s

/-- SUPPLY_STABLE (R181): the supply that was rising is stable; with RESET_N high the POWER reset is released. -/
def supplyStable (s : State) : State :=
  if s.supply = .rising then
    let s1 := { s with supply := .stable }
    if s.pins.resetN then s1.release? else s1
  else s

/-- SUPPLY_FAILURE (R182): any reply being sent is cut, and the part stays in reset until the supply has risen again
(log 12). -/
def supplyFailure (s : State) : State :=
  if s.supply = .below then s else { s.beginReset .power with supply := .below }

/-- RESET_N going low while the supply is present begins a PIN reset, or makes a REQUEST reset one (R181, R182); while the
supply is not stable the reset stays a POWER reset. -/
def resetNLow (s : State) : State :=
  let s1 := { s with pins := { s.pins with resetN := false } }
  if s.pins.resetN && decide (s.supply = .stable) then s1.beginReset .pin else s1

/-- RESET_N returning high with the supply stable releases the reset it held (R181), also when a REQUEST reset that it
extended has not run its 50 µs (R182; log 34). -/
def resetNHigh (s : State) : State :=
  let s1 := { s with pins := { s.pins with resetN := true } }
  if !s.pins.resetN && decide (s.supply = .stable) then s1.release? else s1

/-- REQUEST_RESET_EXPIRY (R181): 50 µs after it began, a REQUEST reset is released. -/
def requestResetExpiry (s : State) : State :=
  if s.assertedReset = some .request then (s.advance Config.requestResetTicks).release? else s

end Sys2Proof.Machine
end

