-- ==== Sys2Proof/Machine/Playback.lean ====
section
/-!
DEFINITION. Frame playback (chapter 5) and the driver fault (chapter 7.3), which a gate opening can bring at once: the
expansion of a frame into phases, frame starts, phase ends, the frame end decision, the frame timer.
-/
namespace Sys2Proof.Machine

/-! ### Expansion of a frame (R76 to R81) -/

/-- The list frame `n` of a job is expanded from (R76). -/
def Template.listOf (t : Template) (n : Nat) : ListName := if n ≤ 1 ∨ t.rep = [] then .main else .rep

/-- The period after frame `n`, in µs: the lead period after frame 1, the repeat period after every later one (R76). -/
def Template.periodAfter (t : Template) (n : Nat) : Nat :=
  if n ≤ 1 then t.header.leadPeriod.toNat else t.header.repeatPeriod.toNat

/-- The duration of one half of the symbol for a bit: the ONE symbol for 1, the ZERO symbol for 0 (R78). -/
def symbolHalf (h : TemplateHeader) (bit : Bool) (half : PhaseKind) : Nat :=
  match bit, half with
  | true, .mark => h.oneMark.toNat
  | true, .space => h.oneSpace.toNat
  | false, .mark => h.zeroMark.toNat
  | false, .space => h.zeroSpace.toNat

/-- The phases an element gives with `taken` bits taken before it (R77 to R80), as kind and duration. -/
def Element.phases (h : TemplateHeader) (payload : List Bool) (toggleBit : Bool) (taken : Nat) :
    Element → List (PhaseKind × Nat)
  | .mark d => [(.mark, d)]
  | .space d => [(.space, d)]
  | .dataNext c => (List.range c).flatMap fun b =>
      [(.mark, symbolHalf h (payload.getD (taken + b) false) .mark), (.space, symbolHalf h (payload.getD (taken + b) false) .space)]
  | .dataEcho c => (List.range c).flatMap fun b =>
      [(.mark, symbolHalf h (!payload.getD (taken - c + b) false) .mark),
       (.space, symbolHalf h (!payload.getD (taken - c + b) false) .space)]
  | .toggle => [(.mark, symbolHalf h toggleBit .mark), (.space, symbolHalf h toggleBit .space)]

/-- All the phases of a frame, element by element (R77 to R81): the reference that the cursor's walk plays. -/
def framePhases (h : TemplateHeader) (payload : List Bool) (toggleBit : Bool) : (taken : Nat) → List Element → List (PhaseKind × Nat)
  | _, [] => []
  | taken, e :: rest => e.phases h payload toggleBit taken ++ framePhases h payload toggleBit (taken + e.takes) rest

/-- Where a frame begins (R78: bits taken is 0 at the start of every frame). -/
def Cursor.first : Cursor := { position := 0, bit := 0, half := .mark, taken := 0 }

/-- The phase the cursor stands on (R77 to R80), as kind and duration; none past the last element. -/
def Cursor.phase (c : Cursor) (h : TemplateHeader) (payload : List Bool) (toggleBit : Bool) (elements : List Element) :
    Option (PhaseKind × Nat) :=
  match elements[c.position]? with
  | none => none
  | some (.mark d) => some (.mark, d)
  | some (.space d) => some (.space, d)
  | some (.dataNext _) => some (c.half, symbolHalf h (payload.getD (c.taken + c.bit) false) c.half)
  | some (.dataEcho n) => some (c.half, symbolHalf h (!payload.getD (c.taken - n + c.bit) false) c.half)
  | some .toggle => some (c.half, symbolHalf h toggleBit c.half)

/-- Symbols an element plays: none for MARK and SPACE (R77 to R80). -/
def Element.symbols : Element → Nat
  | .mark _ => 0
  | .space _ => 0
  | .dataNext c => c
  | .dataEcho c => c
  | .toggle => 1

/-- The cursor moves to the next phase: the space of a symbol, the next symbol, or the next element (R81). -/
def Cursor.next (c : Cursor) (elements : List Element) : Cursor :=
  match elements[c.position]? with
  | none => c
  | some e =>
    if e.symbols = 0 ∨ (c.half = .space ∧ e.symbols ≤ c.bit + 1) then
      { position := c.position + 1, bit := 0, half := .mark, taken := c.taken + e.takes }
    else if c.half = .mark then { c with half := .space }
    else { c with half := .mark, bit := c.bit + 1 }

/-- The phase of the zone's job at a cursor, started now. -/
def State.phaseAt (s : State) (z : Fin 8) (a : ActiveJob) (list : ListName) (c : Cursor) : Option Phase :=
  let t := s.template a.job.template
  (c.phase t.header a.job.payload (s.zone z).toggles[a.job.template] (t.elements list)).map fun (kind, duration) =>
    { kind := kind, duration := duration, start := s.ticks }

/-- When a phase has run its duration (R81). -/
def Phase.stop (p : Phase) : Nat := p.start + p.duration * Config.ticksPerUs

/-- The next phase prepared to follow the current one, or none for the frame's end (R75, R81). -/
def State.nextPhase (s : State) (z : Fin 8) (a : ActiveJob) (p : PlayState) : Option Phase :=
  s.phaseAt z a p.list (p.cursor.next ((s.template a.job.template).elements p.list))

/-! ### The driver fault (R118) -/

/-- The condition becomes the kind of the fault and the latched flag of that kind is set (R118 step 5). -/
def Zone.faulted (z : Zone) (k : FaultKind) : Zone :=
  match k with
  | .openLoad => { z with condition := .openLoad, openSeen := true }
  | .overload => { z with condition := .overload, overloadSeen := true }

/-- A fault of a zone in FRAME (R118): output cut, job ended FAULT, condition and flag set, pair latched. The zone does
not consider its next activation. -/
def State.driverFault (s : State) (z : Fin 8) (k : FaultKind) : State :=
  (((s.cutOutput z).endJob z .fault s.timeBase).updZone z fun zn => zn.faulted k).latchFault z k

/-- A condition already presented when the gate is open and sensed is taken (R117). -/
def State.sense (s : State) (z : Fin 8) : State :=
  if (s.zone z).sampling then
    match faultOf s.pins.zsense[z] with
    | some k => s.driverFault z k
    | none => s
  else s

/-! ### Frame starts (R87) -/

/-- The play state of frame `n`, begun now (R87). -/
def State.firstPlay (s : State) (z : Fin 8) (a : ActiveJob) (n : Nat) : PlayState :=
  let t := s.template a.job.template
  { list := t.listOf n, frameNumber := n, cursor := Cursor.first, phase := s.phaseAt z a (t.listOf n) Cursor.first
    deadline := if t.periodAfter n = 0 then none else some (s.ticks + t.periodAfter n * Config.ticksPerUs)
    lastPhaseEnd := a.play.bind PlayState.lastPhaseEnd }

/-- A frame of the zone's active job starts now (R87). The gate is the caller's (`gateMoved`). -/
def State.startFrame (s : State) (z : Fin 8) : State :=
  match (s.zone z).active with
  | none => s
  | some a =>
    s.updZone z fun zn => { zn with active := some { a with
      framesStarted := a.framesStarted + 1
      firstFrameStart := if a.framesStarted = 0 then some s.timeBase else a.firstFrameStart
      play := some (s.firstPlay z a (a.framesStarted + 1)) } }

/-! ### The frame end decision (R90, R91) -/

/-- Test 2 of R90: a TAP job that has reached its target, or 4,096 frames. -/
def tapDone (a : ActiveJob) : Bool :=
  !a.job.mode.isHold && (decide (a.framesTarget ≤ a.framesStarted) || decide (a.framesStarted = Config.maxFrames))

/-- Test 3 of R90: a released HOLD job that has played its minimum repeats. -/
def holdReleased (a : ActiveJob) (t : Template) : Bool :=
  a.job.mode.isHold && a.job.released && decide (1 + t.minRepeats ≤ a.framesStarted)

/-- Test 4 of R90: a HOLD job at its hold limit in effect, which is its frames target (R22). -/
def holdLimited (a : ActiveJob) : Bool := a.job.mode.isHold && decide (a.framesStarted = a.framesTarget)

/-- The tests of R90 in order; none: INTERVAL or the next frame. -/
def frameEndDecision (a : ActiveJob) (t : Template) : Option JobOutcome :=
  if a.cancelAfterFrame then some .cancelled
  else if tapDone a then some .done
  else if holdReleased a t then some .released
  else if holdLimited a then some .limit
  else none

/-- Tests 2 and 3 of R90, taken again in INTERVAL (R91). -/
def intervalDecision (a : ActiveJob) (t : Template) : Option JobOutcome :=
  if tapDone a then some .done else if holdReleased a t then some .released else none

/-- In INTERVAL, a set released flag or a moved target takes the decision again; the job may end with the last phase
end as its end time (R91). In any other state nothing more happens. -/
def State.decideAgain (s : State) (z : Fin 8) : State :=
  match (s.zone z).active with
  | none => s
  | some a =>
    match a.play with
    | none => s
    | some p =>
      if p.phase.isSome then s
      else match intervalDecision a (s.template a.job.template) with
        | none => s
        | some outcome =>
          (s.endJob z outcome (reading (p.lastPhaseEnd.getD s.ticks))).considerActivation z

/-! ### PHASE_END and FRAME_TIMER_EXPIRY (R81, R88 to R92) -/

/-- The zone's play state becomes this. -/
def State.setPlay (s : State) (z : Fin 8) (p : PlayState) : State :=
  s.updActive z fun a => { a with play := some p }

/-- The last phase of a frame has ended now: it is recorded as the last phase end, and the frame end decision gives the
job's end, the next frame at once, or INTERVAL (R88, R90, R92). -/
def State.frameEnd (s : State) (z : Fin 8) (a : ActiveJob) (p : PlayState) : State :=
  match frameEndDecision a (s.template a.job.template) with
  | some outcome => (s.endJob z outcome s.timeBase).considerActivation z
  | none =>
    let s1 := s.setPlay z { p with phase := none, lastPhaseEnd := some s.ticks }
    match p.deadline with
    | none => s1.startFrame z
    | some d => if d ≤ s.ticks then s1.startFrame z else s1

/-- The current phase has ended now: the next phase begins, or the frame has ended (R81, R88). -/
def State.phaseOver (s : State) (z : Fin 8) (a : ActiveJob) (p : PlayState) : State :=
  match s.nextPhase z a p with
  | some next =>
    s.setPlay z { p with phase := some next, cursor := p.cursor.next ((s.template a.job.template).elements p.list) }
  | none => s.frameEnd z a p

/-- PHASE_END of a zone in FRAME (R81, R88, R90): time reaches the phase's end, the gate follows, and a condition that
stands at an opening is taken (R117). -/
def phaseEnd (z : Fin 8) (s : State) : State :=
  match (s.zone z).active with
  | none => s
  | some a =>
    match a.play with
    | none => s
    | some p =>
      match p.phase with
      | none => s
      | some phase =>
        (((s.advance phase.stop).phaseOver z a p).gateMoved z (s.zone z).gateOpen).sense z

/-- FRAME_TIMER_EXPIRY of a zone in INTERVAL (R89). -/
def frameTimerExpiry (z : Fin 8) (s : State) : State :=
  match (s.zone z).active with
  | none => s
  | some a =>
    match a.play with
    | none => s
    | some p =>
      match p.phase, p.deadline with
      | none, some d => (((s.advance d).startFrame z).gateMoved z false).sense z
      | _, _ => s

/-- DRIVER_FAULT (R116, R117): the driver stage presents this condition, and an OPEN or OVERLOAD report is a fault while
the zone samples. -/
def driverReport (z : Fin 8) (report : Condition) (s : State) : State :=
  let s1 := { s with pins := { s.pins with zsense := s.pins.zsense.set z report } }
  if s.assertedReset.isSome then s1 else s1.sense z

end Sys2Proof.Machine
end

