-- ==== Sys2Proof/Machine/Arbiter.lean ====
section
/-!
DEFINITION. The Start Arbiter (chapter 3): slot boundaries, the plan swap, the grant walk, SLOT PLAN and SLOT QUERY.
-/
namespace Sys2Proof.Machine

/-! ### The slot clock and the plan swap (R45, R49) -/

/-- The slot index steps and 15 wraps to 0; at the plan boundary a staged plan becomes active; the new slot runs for the
length of the plan then active (R45, R46, R49). -/
def Arbiter.step (a : Arbiter) (now : Nat) : Arbiter :=
  let index := a.slotIndex + 1
  let plan := if index = 0 then a.stagedPlan.getD a.activePlan else a.activePlan
  { a with slotIndex := index, activePlan := plan, stagedPlan := if index = 0 then none else a.stagedPlan
           slotEnd := now + plan.length * Config.ticksPerSlotUnit }

/-! ### The grant walk (R52 to R54) -/

/-- Condition 1 of R52: the slot is a member of the zone's mask in the active plan. That bit n of a mask is slot n is the
model's choice (log 31). -/
def Arbiter.admits (a : Arbiter) (z : Fin 8) : Bool := a.activePlan.masks[z].getLsbD a.slotIndex.val

/-- Condition 2 of R52: the zone has no group, or its group's lock is free. -/
def Arbiter.groupFree (a : Arbiter) (group : Option (Fin 4)) : Bool :=
  match group with
  | none => true
  | some g => a.locks[g].isNone

/-- The zone takes its group's lock, if it has a group, and leaves the waiting list (R54). -/
def Arbiter.grant (a : Arbiter) (z : Fin 8) (group : Option (Fin 4)) : Arbiter :=
  { a with
    waiting := a.waiting.filter fun w => decide (w ≠ z)
    locks := match group with
      | none => a.locks
      | some g => a.locks.set g (some z) }

/-- The grant of a zone (R54): lock, carrier binding, entry removed, first frame started, gate as its first phase says. -/
def State.grant (s : State) (z : Fin 8) (binding : Option (Fin 4)) : State :=
  let s1 := { s with arbiter := s.arbiter.grant z (s.zone z).config.group }
  ((s1.updActive z fun a => { a with binding := binding }).startFrame z).gateMoved z false

/-- One visit of the walk (R52): the three conditions in order; a zone that fails one is passed over unchanged. -/
def State.visit (s : State) (z : Fin 8) : State :=
  match (s.zone z).active with
  | none => s
  | some a =>
    if s.arbiter.admits z && s.arbiter.groupFree (s.zone z).config.group then
      match (s.template a.job.template).carrier with
      | none => s.grant z none
      | some c =>
        match s.obtainable c with
        | none => s
        | some g => (s.obtain g c z).grant z (some g)
    else s

/-- The walk over the waiting list as it stood when the walk began, oldest first (R52, R53). -/
def State.walk (s : State) (order : List (Fin 8)) : State := order.foldl State.visit s

/-- Conditions that stand at the gates just opened are taken once the walk is over (R117, R53; log 14). -/
def State.senseAll (s : State) (order : List (Fin 8)) : State := order.foldl State.sense s

/-- The slot clock reaches the end of the slot (R45, R49): the index steps, and a staged plan may become active. -/
def State.nextSlot (s : State) : State :=
  let s1 := s.advance s.arbiter.slotEnd
  { s1 with arbiter := s1.arbiter.step s1.ticks }

/-- SLOT_BOUNDARY (R45, R49, R52): the next slot begins and the waiting list is walked. The slot clock does not run while
reset is asserted (R46, log 22). -/
def slotBoundary (s : State) : State :=
  if s.assertedReset.isSome then s else (s.nextSlot.walk s.arbiter.waiting).senseAll s.arbiter.waiting

/-! ### Requests -/

/-- SLOT PLAN (R48). -/
def slotPlan (length : Half) (masks : Vector Half 8) (s : State) : Answer :=
  if length.toNat = 0 ∨ 256 < length.toNat ∨ masks.toList.any (fun m => decide (m = 0)) = true then refuse s .badField
  else
    accept { s with arbiter := { s.arbiter with stagedPlan := some { length := length.toNat, masks := masks } } }
      (.slotPlan s.arbiter.stagedPlan.isSome s.arbiter.slotIndex (16 - s.arbiter.slotIndex.val))

/-- The tag and template of a zone's active job, for SLOT QUERY's waiting list (R59). -/
def State.waitingEntry (s : State) (z : Fin 8) : Option (Fin 8 × Half × Fin 64) :=
  (s.zone z).active.map fun a => (z, a.job.tag, a.job.template)

/-- SLOT QUERY (R59). -/
def slotQuery (selector : Byte) (s : State) : Answer :=
  match planStaged? selector with
  | none => refuse s .badField
  | some staged =>
    accept s (.slotQuery
      { staged := s.arbiter.stagedPlan.isSome
        plan := if staged then s.arbiter.stagedPlan else some s.arbiter.activePlan
        index := s.arbiter.slotIndex
        waiting := s.arbiter.waiting.filterMap s.waitingEntry
        locks := s.arbiter.locks })

end Sys2Proof.Machine
end

