-- ==== Sys2Proof/Machine/Hold.lean ====
section
/-!
DEFINITION. Hold, release and cancellation (chapter 6): JOB RELEASE, JOB CANCEL, ZONE FLUSH.
-/
namespace Sys2Proof.Machine

/-! ### Releasing (R97 to R101) -/

/-- The released flag of the active job is set; in INTERVAL the decision is taken again (R98). -/
def State.releaseActive (s : State) (z : Fin 8) : State :=
  (s.updActive z fun a => { a with job := { a.job with released := true } }).decideAgain z

/-- The released flag of the queued job with this tag is set where it stands (R99). -/
def State.releaseQueued (s : State) (z : Fin 8) (tag : Half) : State :=
  s.updZone z fun zn => { zn with queue := zn.queue.map fun j => if j.tag = tag then { j with released := true } else j }

/-- The newest record of the completion list that carries the tag (R101). -/
def Zone.newestRecord (z : Zone) (tag : Half) : Option Completion := z.completions.reverse.find? fun c => decide (c.tag = tag)

/-- The place of the queued job with this tag, counted from 1 at the head (R99). -/
def Zone.placeOf (z : Zone) (tag : Half) : Nat := z.queue.findIdx (fun j => decide (j.tag = tag)) + 1

/-- A job is a HOLD job not yet released. -/
def Job.releasable (j : Job) : Bool := j.mode.isHold && !j.released

/-- Tests 5 and 6 of R97 (R101): no live job carries the tag. -/
def State.releaseLate (s : State) (z : Fin 8) (tag : Half) : Answer :=
  match (s.zone z).newestRecord tag with
  | some c => if c.outcome = .limit then refuseWith s .tooLate (.tooLate tag c.framesStarted c.endTime) else refuse s .notFound
  | none => refuse s .notFound

/-- Tests 3 and 4 of R97 (R100): the tag names a live job that cannot be released (again). -/
def State.releaseAgain (s : State) (z : Fin 8) (tag : Half) : Answer :=
  match (s.zone z).activeWith tag, (s.zone z).queuedWith tag with
  | some a, _ =>
    if a.job.mode.isHold then refuseWith s .already (.releaseAlready .active (some a.framesStarted))
    else refuseWith s .notHold (.notHold .active (some (a.framesStarted, a.framesTarget)))
  | none, some j =>
    if j.mode.isHold then refuseWith s .already (.releaseAlready .queued none) else refuseWith s .notHold (.notHold .queued none)
  | none, none => s.releaseLate z tag

/-- The release of a tag on a zone (R97): the host's and a trigger line's alike. -/
def State.release (s : State) (z : Fin 8) (tag : Half) : Answer :=
  if (s.zone z).quietEnd.isSome then refuse s .busy
  else if ((s.zone z).activeWith tag).any fun a => a.job.releasable then
    let s1 := s.releaseActive z
    accept s1 (.jobActive z tag (((s.zone z).activeWith tag).elim 0 ActiveJob.framesStarted)
      (decide ((s.zone z).completions.length < (s1.zone z).completions.length)) (s1.zone z).state)
  else if ((s.zone z).queuedWith tag).any Job.releasable then
    let s1 := s.releaseQueued z tag
    accept s1 (.releaseQueued z tag ((s.zone z).placeOf tag) (s1.zone z).state)
  else s.releaseAgain z tag

/-- JOB RELEASE (R97). -/
def jobRelease (zone : Byte) (tag : Half) (s : State) : Answer :=
  match index? 8 zone with
  | none => refuse s .badField
  | some z => s.release z tag

/-! ### Ending the active job (R106, R107, R109) -/

/-- The active job ends CANCELLED at once: the gate closes with a high half in progress completing, the record carries
the reading of the request, and the next activation is considered (R106, R107, R109). -/
def State.cancelNow (s : State) (z : Fin 8) : State :=
  ((s.endJob z .cancelled s.timeBase).gateMoved z (s.zone z).gateOpen).considerActivation z

/-- Cancel-after-frame is set (R108). -/
def State.cancelLater (s : State) (z : Fin 8) : State := s.updActive z fun a => { a with cancelAfterFrame := true }

/-- A GRACEFUL cancel waits for the end of the frame only in FRAME (R104). -/
def cancelWaits (a : ActiveJob) (mode : CancelMode) : Bool := decide (mode = .graceful) && decide (a.state = .frame)

/-! ### JOB CANCEL (R104, R105, R110) -/

/-- The queued job leaves its place with no record and the use count falls by 1 (R105). -/
def State.dropQueued (s : State) (z : Fin 8) (j : Job) : State :=
  (s.updZone z fun zn => { zn with queue := zn.queue.eraseP fun q => decide (q.tag = j.tag) }).dropUse j.template

/-- A cancel that names the active job (R104, R110). -/
def State.cancelActive (s : State) (z : Fin 8) (a : ActiveJob) (mode : CancelMode) : Answer :=
  if cancelWaits a mode then
    if a.cancelAfterFrame then refuseWith s .already (.cancelAlready a.framesStarted)
    else accept (s.cancelLater z) (.jobActive z a.job.tag a.framesStarted false ((s.cancelLater z).zone z).state)
  else accept (s.cancelNow z) (.jobActive z a.job.tag a.framesStarted true ((s.cancelNow z).zone z).state)

/-- JOB CANCEL (R104). -/
def jobCancel (zone : Byte) (tag : Half) (mode : Byte) (s : State) : Answer :=
  match index? 8 zone, cancelMode? mode with
  | some z, some m =>
    if (s.zone z).quietEnd.isSome then refuse s .busy
    else match (s.zone z).queuedWith tag, (s.zone z).activeWith tag with
      | some j, _ =>
        let s1 := s.dropQueued z j
        accept s1 (.cancelQueued z tag j.template j.mode.isHold (s1.zone z).queue.length (s1.zone z).state)
      | none, some a => s.cancelActive z a m
      | none, none => refuse s .notFound
  | _, _ => refuse s .badField

/-! ### ZONE FLUSH (R112, R113) -/

/-- Every queued job is removed, each lowering its template's use count (R112). -/
def State.dropQueue (s : State) (z : Fin 8) : State :=
  (s.dropUses (s.zone z).queue).updZone z fun zn => { zn with queue := [] }

/-- The action on the active job once the queue is empty (R112), and the active result (R113). -/
def State.flushActive (s : State) (z : Fin 8) (action : Option CancelMode) : State × FlushResult :=
  match (s.zone z).active with
  | none => (s, .none)
  | some a =>
    match action with
    | none => (s, .kept a.job.tag a.framesStarted)
    | some m =>
      if cancelWaits a m then (s.cancelLater z, .pending a.job.tag a.framesStarted)
      else (s.cancelNow z, .ended a.job.tag a.framesStarted)

/-- ZONE FLUSH (R112, R113). -/
def zoneFlush (zone action : Byte) (s : State) : Answer :=
  match index? 8 zone, flushAction? action with
  | some z, some m =>
    if (s.zone z).quietEnd.isSome then refuse s .busy
    else
      let s1 := (s.dropQueue z).flushActive z m
      accept s1.1 (.zoneFlush z ((s.zone z).queue.map Job.tag) s1.2 (s1.1.zone z).state)
  | _, _ => refuse s .badField

end Sys2Proof.Machine
end

