-- ==== Sys2Proof/Machine/Drivers.lean ====
section
/-!
DEFINITION. FAULT CLEAR, ZONE RESET and the quiet time (chapter 7). The driver fault itself is in Machine/Playback.lean,
since a gate opening can bring it.
-/
namespace Sys2Proof.Machine

/-- FAULT CLEAR (R120). -/
def faultClear (zone : Byte) (s : State) : Answer :=
  match index? 8 zone with
  | none => refuse s .badField
  | some z =>
    if (s.zone z).quietEnd.isSome then refuse s .busy
    else if (s.zone z).state ≠ .faulted then refuse s .badState
    else
      let s1 := (s.updZone z fun zn => { zn with condition := .normal }).considerActivation z
      accept s1 (.faultClear z (s.zone z).condition (s.zone z).queue.length (s1.zone z).state)

/-- A zone's records after a ZONE RESET (R122): all cleared but the configuration, the quiet time begun. -/
def Zone.cleared (z : Zone) (quietEnd : Nat) : Zone :=
  { Zone.reset z.config.strap with config := z.config, quietEnd := some quietEnd }

/-- What the active job of a reset zone held is given back, and its use count falls by 1 (R122 steps 2 and 4). -/
def State.discardActive (s : State) (z : Fin 8) : State :=
  match (s.zone z).active with
  | none => s
  | some a => (s.giveBack z a.binding).dropUse a.job.template

/-- The zone is reset now (R122). -/
def State.resetZone (s : State) (z : Fin 8) : State :=
  ((s.discardActive z).dropUses (s.zone z).queue).updZone z fun zn => zn.cleared (s.ticks + Config.quietTicks)

/-- ZONE RESET (R122). -/
def zoneReset (zone : Byte) (s : State) : Answer :=
  match index? 8 zone with
  | none => refuse s .badField
  | some z =>
    if (s.zone z).quietEnd.isSome then refuse s .busy
    else
      accept (s.resetZone z)
        (.zoneReset z ((s.zone z).active.map fun a => a.job.tag) ((s.zone z).queue.map Job.tag)
          (s.zone z).completions.length ((s.resetZone z).zone z).state)

/-- QUIET_TIME_EXPIRY (R123): the zone leaves RESETTING for IDLE or DISABLED, as its enabled field stands. -/
def quietTimeExpiry (z : Fin 8) (s : State) : State :=
  match (s.zone z).quietEnd with
  | none => s
  | some t => (s.advance t).updZone z fun zn => { zn with quietEnd := none }

end Sys2Proof.Machine
end

