-- ==== Sys2Proof/Machine/Trigger.lean ====
section
/-!
DEFINITION. Trigger lines (chapter 8): debounce, edge events, submissions, retriggers and releases, TRIGGER BIND and
TRIGGER QUERY.
-/
namespace Sys2Proof.Machine

def State.updLine (s : State) (n : Fin 4) (f : Line → Line) : State := s.setLine n (f (s.line n))

/-- The line enters this state. -/
def State.lineTo (s : State) (n : Fin 4) (state : LineState) : State := s.updLine n fun l => { l with state := state }

/-! ### Submissions (R131) -/

/-- The job a line makes (R131): TAP with the binding's repeats, or HOLD with no override. -/
def lineJob (b : Binding) (n : Fin 4) (mode : JobMode) : Job :=
  { tag := b.tag, template := b.template, mode := mode, payload := b.payload, origin := .trigger n, released := false }

/-- A trigger submission is refused with this status, or accepted (R131). -/
def State.lineJudge (s : State) (b : Binding) : Option Status := s.judge b.zone b.template b.payload.length b.tag

/-- A trigger submission (R131): a refusal is latched, an accepted job joins the zone's queue. -/
def State.lineSubmit (s : State) (b : Binding) (n : Fin 4) (mode : JobMode) : State :=
  match s.lineJudge b with
  | some status => s.latchTrigger n status
  | none => s.enqueue b.zone (lineJob b n mode)

/-! ### Rising events (R132 to R134) -/

/-- The frames target of a retrigger (R133). -/
def retriggerTarget (started repeats : Nat) : Nat := min (started + repeats) Config.maxFrames

/-- The active job of the zone that carries the binding's tag and came from this line (R133). -/
def State.lineActive (s : State) (b : Binding) (n : Fin 4) : Option ActiveJob :=
  ((s.zone b.zone).activeWith b.tag).filter fun a => decide (a.job.origin = .trigger n)

/-- A queued job of the zone carries the binding's tag and came from this line (R133). -/
def State.lineQueued (s : State) (b : Binding) (n : Fin 4) : Bool :=
  (s.zone b.zone).queue.any fun j => decide (j.tag = b.tag) && decide (j.origin = .trigger n)

/-- A rising event with mode EDGE RETRIGGER (R133). -/
def State.retrigger (s : State) (b : Binding) (n : Fin 4) (repeats : Nat) : State :=
  match s.lineActive b n with
  | some a =>
    if a.play.isSome && !a.job.mode.isHold then
      (s.updActive b.zone fun a => { a with framesTarget := retriggerTarget a.framesStarted repeats }).decideAgain b.zone
    else s
  | none => if s.lineQueued b n then s else s.lineSubmit b n (.tap repeats)

/-- A rising event on an ARMED line (R132 to R134). -/
def State.rising (s : State) (b : Binding) (n : Fin 4) : State :=
  match b.mode with
  | .edgeTap r => (s.lineSubmit b n (.tap r)).lineTo n .fired
  | .edgeRetrigger r => (s.retrigger b n r).lineTo n .fired
  | .levelHold =>
    (s.lineSubmit b n (.hold none)).lineTo n (if (s.lineJudge b).isSome then .fired else .holding)

/-! ### Falling events (R135) -/

/-- A release of the binding's tag with its reply absorbed (R135). -/
def State.lineRelease (s : State) (b : Binding) : State := (s.release b.zone b.tag).state

/-- A falling event (R135): from HOLDING a release is made; the line enters ARMED. -/
def State.falling (s : State) (b : Binding) (n : Fin 4) : State :=
  match (s.line n).state with
  | .holding => (s.lineRelease b).lineTo n .armed
  | .waitLow => s.lineTo n .armed
  | .fired => s.lineTo n .armed
  | _ => s

/-! ### The taken level (R129) -/

/-- The taken level changes to the pin level now and the timer stops; the event is handled under the line's state. -/
def State.takeLevel (s : State) (n : Fin 4) (level : Bool) : State :=
  let s1 := s.updLine n fun l => { l with taken := level, debounceEnd := none }
  match (s.line n).binding with
  | none => s1
  | some b =>
    if level then (if (s.line n).state = .armed then s1.rising b n else s1)
    else s1.falling b n

/-- Debounce time of a line in ticks; 0 for an unbound line (R129). -/
def Line.debounceTicks (l : Line) : Nat := l.binding.elim 0 fun b => b.debounce * Config.ticksPerUs

/-- The pin level has changed (R129): the timer starts, or the event comes at once when the debounce time is 0; a return
to the taken level stops the timer. -/
def State.pinMoved (s : State) (n : Fin 4) (level : Bool) : State :=
  if level = (s.line n).taken then s.updLine n fun l => { l with debounceEnd := none }
  else if (s.line n).debounceEnd.isSome then s
  else if (s.line n).debounceTicks = 0 then s.takeLevel n level
  else s.updLine n fun l => { l with debounceEnd := some (s.ticks + l.debounceTicks) }

/-- TRIG_PIN_CHANGE (R129): a level equal to the present one is no change. While reset is asserted only the pin moves. -/
def trigPinChange (n : Fin 4) (level : Bool) (s : State) : State :=
  let s1 := { s with pins := { s.pins with trig := s.pins.trig.set n level } }
  if s.assertedReset.isSome ∨ s.pins.trig[n] = level then s1 else s1.pinMoved n level

/-- DEBOUNCE_EXPIRY (R129): the pin still differs from the taken level when the time has run out. -/
def debounceExpiry (n : Fin 4) (s : State) : State :=
  match (s.line n).debounceEnd with
  | none => s
  | some t =>
    if s.pins.trig[n] = (s.line n).taken then (s.advance t).updLine n fun l => { l with debounceEnd := none }
    else (s.advance t).takeLevel n s.pins.trig[n]

/-! ### TRIGGER BIND (R137) -/

/-- A binding whose fields have passed check 1 of R137. -/
def binding? (r : BindingRecord) : Option Binding :=
  match index? 8 r.zone, index? 64 r.template, bindMode? r.mode r.repeats with
  | some z, some i, some mode =>
    if r.debounce.toNat ≤ 50000 ∧ r.payloadLength.toNat ≤ 64 then
      some { zone := z, template := i, payload := payloadBits r.payloadLength.toNat r.payload, tag := r.tag, mode := mode
             debounce := r.debounce.toNat }
    else none
  | _, _, _ => none

/-- Step 1 of R137: a HOLDING line releases its old binding's tag. -/
def State.unhold (s : State) (n : Fin 4) : State :=
  match (s.line n).binding with
  | some b => if (s.line n).state = .holding then s.lineRelease b else s
  | none => s

/-- Steps 2 to 5 of R137: old binding and claim go, new binding and claim come, timer stopped, level resampled. -/
def State.bind (s : State) (n : Fin 4) (new : Option Binding) : State :=
  let s1 := match (s.line n).binding with
    | some b => s.dropUse b.template
    | none => s
  let s2 := match new with
    | some b => s1.addUse b.template
    | none => s1
  s2.setLine n
    { binding := new, taken := s.pins.trig[n], debounceEnd := none
      state := if new.isNone then .unbound else if s.pins.trig[n] then .waitLow else .armed }

/-- An accepted TRIGGER BIND (R137). -/
def State.rebind (s : State) (n : Fin 4) (new : Option Binding) : Answer :=
  let s1 := (s.unhold n).bind n new
  accept s1 (.triggerBind n (s.line n).binding.isSome (decide ((s.line n).state = .holding)) (s1.line n).state (s1.line n).taken)

/-- TRIGGER BIND (R137). -/
def triggerBind (line : Byte) (record : Option BindingRecord) (s : State) : Answer :=
  match index? 4 line, record with
  | none, _ => refuse s .badField
  | some n, none => if (s.line n).binding.isNone then refuse s .already else s.rebind n none
  | some n, some r =>
    match binding? r with
    | none => refuse s .badField
    | some b =>
      match (s.slot b.template).template with
      | none => refuse s .noTemplate
      | some t => if b.payload.length ≠ dataBits t.main then refuse s .badPayload else s.rebind n (some b)

/-- TRIGGER QUERY (R139). -/
def triggerQuery (line : Byte) (s : State) : Answer :=
  match index? 4 line with
  | none => refuse s .badField
  | some n =>
    accept s (.triggerQuery
      { line := n, state := (s.line n).state, binding := (s.line n).binding, taken := (s.line n).taken
        pin := s.pins.trig[n], debouncing := (s.line n).debounceEnd.isSome })

end Sys2Proof.Machine
end

