-- ==== Sys2Proof/Machine/Port.lean ====
section
/-!
DEFINITION. The Message Port (chapter 11): handing requests to their owners, replies, the request buffer, the frame
assembler, IDENTIFY and ENGINE RESET.
-/
namespace Sys2Proof.Machine

/-! ### IDENTIFY and ENGINE RESET (R180, R182) -/

/-- The characters ITREDO, CV208 and C (R180). -/
def vendorBytes : List Byte := [0x49#8, 0x54#8, 0x52#8, 0x45#8, 0x44#8, 0x4F#8]
def partBytes : List Byte := [0x43#8, 0x56#8, 0x32#8, 0x30#8, 0x38#8]
def revisionByte : Byte := 0x43#8

/-- What IDENTIFY reports (R180): the straps are those sampled at the last engine reset. -/
def identifyReport (s : State) : IdentifyReport :=
  { vendor := vendorBytes, part := partBytes, revision := revisionByte, zones := 8, slots := 64, cells := Config.poolCells
    generators := 4, lines := 4, captureEntries := 512, baud := s.port.baud
    zclass := mapVector (fun zn => decide (zn.config.strap = .wired)) s.zones }

/-- IDENTIFY (R180). -/
def identify (s : State) : Answer := accept s (.identify (identifyReport s))

/-- ENGINE RESET (R182): the reply is OK with no fields; the reset begins when it has been sent. -/
def engineReset (s : State) : Answer := accept s .none

/-! ### Handing a request to its owner (R177) -/

/-- The owning block's answer to a request. -/
def answer : Request → State → Answer
  | .templateBegin i h, s => templateBegin i h s
  | .templateAppend sel es, s => templateAppend sel es s
  | .templateCommit, s => templateCommit s
  | .templateAbandon, s => templateAbandon s
  | .templateDelete i, s => templateDelete i s
  | .templateQuery i o, s => templateQuery i o s
  | .libraryQuery, s => libraryQuery s
  | .zoneSetup z e b g d, s => zoneSetup z e b g d s
  | .zoneQuery z, s => zoneQuery z s
  | .zoneReset z, s => zoneReset z s
  | .faultClear z, s => faultClear z s
  | .jobSubmit r, s => jobSubmit r s
  | .jobRelease z t, s => jobRelease z t s
  | .jobCancel z t m, s => jobCancel z t m s
  | .zoneFlush z a, s => zoneFlush z a s
  | .completionTake z, s => completionTake z s
  | .slotPlan l ms, s => slotPlan l ms s
  | .slotQuery sel, s => slotQuery sel s
  | .carrierQuery, s => carrierQuery s
  | .timeQuery, s => timeQuery s
  | .triggerBind n b, s => triggerBind n b s
  | .triggerQuery n, s => triggerQuery n s
  | .captureArm src z t g m, s => captureArm src z t g m s
  | .captureStop, s => captureStop s
  | .captureQuery, s => captureQuery s
  | .captureRead o c, s => captureRead o c s
  | .noticeFetch n, s => noticeFetch n s
  | .noticePeek, s => noticePeek s
  | .noticeAck n, s => noticeAck n s
  | .noticeSetup t es, s => noticeSetup t es s
  | .identify, s => identify s
  | .engineReset, s => engineReset s

/-! ### Replies (R177) -/

/-- The frame of a reply, from the free bytes numbered by the state's counter (log 6). -/
def State.replyFrame (s : State) (r : Reply) : List Byte := frameOf (replyBody r s.freeCount)

/-- The record of a request whose reply begins now (R177): the frame lasts as long as its bytes take on the line. -/
def State.handlingOf (s : State) (code : Byte) (r : Reply) : Handling :=
  { code := code, reply := r, frame := s.replyFrame r, startsAt := s.ticks
    endsAt := s.ticks + lineTicks s.port.baud (s.replyFrame r).length }

/-- Transmission of a reply begins now and the request is in handling until its last stop bit (R177). -/
def State.startReply (s : State) (code : Byte) (r : Reply) : State :=
  { s with freeCount := s.freeCount + 1, port := { s.port with handling := some (s.handlingOf code r) } }

/-- The request is handed over, acts, and its reply begins (R177), unless its body length is one R178 refuses. -/
def State.handle (s : State) (seq : Byte) (r : Request) : State :=
  if r.lengthOk then
    let a := answer r s
    a.state.startReply (requestCode r)
      { code := replyCode (requestCode r), seq := seq, status := a.status, fields := a.fields }
  else
    s.startReply (requestCode r)
      { code := replyCode (requestCode r), seq := seq, status := .badLength, fields := .none }

/-- A request body is taken for handling (R178): an unknown code or a wrong length is refused by the port. -/
def State.handleBody (s : State) (body : List Byte) : State :=
  match body with
  | code :: seq :: f =>
    match parseFields code f with
    | .request r => s.handle seq r
    | .badLength => s.startReply code { code := replyCode code, seq := seq, status := .badLength, fields := .none }
    | .unknown => s.startReply code { code := replyCode code, seq := seq, status := .unknown, fields := .none }
  | _ => s

/-! ### TXD (R171, R181) -/

/-- The bit of the line, counted from the first start bit, that stands this many ticks after it: a bit lasts 625/9 ticks at
115,200 bit/s and 625/36 at 460,800 (log 8). -/
def bitAt (fast : Bool) (elapsed : Nat) : Nat := if fast then elapsed * 36 / 625 else elapsed * 9 / 625

/-- The level of a bit of the line (R171): each byte is a start bit, 8 data bits least significant first and a stop bit;
past the last byte the line is at rest. -/
def lineBit (frame : List Byte) (bit : Nat) : Bool :=
  match frame[bit / 10]? with
  | none => true
  | some b => if bit % 10 = 0 then false else if bit % 10 ≤ 8 then b.getLsbD (bit % 10 - 1) else true

/-- TXD: high at rest and while reset is asserted, else the bit of the reply being sent (R171, R181). -/
def State.txd (s : State) : Bool :=
  if s.assertedReset.isSome then true
  else match s.port.handling with
    | none => true
    | some h => lineBit h.frame (bitAt s.port.baud (s.ticks - h.startsAt))

/-! ### The request buffer (R176, R177) -/

def State.setBuffer (s : State) (buffer : List (List Byte)) : State := { s with port := { s.port with buffer := buffer } }

/-- With no request in handling, the head of the buffer is taken (R177). -/
def State.takeRequest (s : State) : State :=
  if s.port.handling.isSome then s
  else match s.port.buffer with
    | [] => s
    | body :: rest => (s.setBuffer rest).handleBody body

/-- A frame that has passed its check sequence joins the buffer, or is discarded with cause OVERRUN (R176); if no
request is in handling the head is taken. -/
def State.offer (s : State) (body : List Byte) : State :=
  if s.port.buffer.length < Config.requestCapacity then (s.setBuffer (s.port.buffer ++ [body])).takeRequest
  else s.latchLink .overrun

/-- A request command: one complete, correct request frame reaches the port (log 9). With the port free the request is
handed over at once; otherwise its frame goes to the buffer. While reset is asserted nothing is received (R181). -/
def State.request (s : State) (seq : Byte) (r : Request) : State :=
  if s.assertedReset.isSome then s
  else if s.port.handling.isNone && s.port.buffer.isEmpty then s.handle seq r
  else s.offer (requestBody seq r)

/-! ### The frame assembler (R173 to R175) -/

/-- The assembler goes to HUNTING and the gap timer stops. -/
def Port.hunt (p : Port) : Port := { p with assembler := .hunting, gapEnd := none }

def State.setPort (s : State) (p : Port) : State := { s with port := p }

/-- A frame is discarded with this cause (R175). -/
def State.discard (s : State) (c : LinkCause) : State := (s.setPort s.port.hunt).latchLink c

/-- The length byte (R173). -/
def State.lengthByte (s : State) (b : Byte) : State :=
  if 2 ≤ b.toNat ∧ b.toNat ≤ 64 then
    s.setPort { s.port with assembler := .body, length := b.toNat, body := [], check := crcByte 0xFFFF#16 b }
  else s.discard .length

/-- A body byte; after the last one come the check bytes (R173). -/
def State.bodyByte (s : State) (b : Byte) : State :=
  s.setPort { s.port with
    body := s.port.body ++ [b], check := crcByte s.port.check b
    assembler := if s.port.length ≤ s.port.body.length + 1 then .checkHigh else .body }

/-- The last byte: the two check bytes are compared, high byte first; a frame that passes is offered to the buffer
(R172, R173). -/
def State.lastByte (s : State) (b : Byte) : State :=
  if halfOf b s.port.checkHigh = s.port.check then (s.setPort s.port.hunt).offer s.port.body else s.discard .check

/-- The assembler takes a byte (R173). -/
def State.assemble (s : State) (b : Byte) : State :=
  match s.port.assembler with
  | .hunting => if b = 0xC3#8 then s.setPort { s.port with assembler := .length } else s
  | .length => s.lengthByte b
  | .body => s.bodyByte b
  | .checkHigh => s.setPort { s.port with checkHigh := b, assembler := .checkLow }
  | .checkLow => s.lastByte b

/-- The gap timer counts from the byte just received, except in HUNTING (R174). -/
def State.restartGap (s : State) : State :=
  s.setPort { s.port with gapEnd := if s.port.assembler = .hunting then none else some (s.ticks + Config.gapTicks) }

/-- A character begins on RXD. -/
def State.rxdStarts (s : State) : State := { s with pins := { s.pins with rxdBusy := true } }

/-- The character on RXD has ended; the next one is heard. -/
def State.rxdIdle (s : State) : State :=
  { s with pins := { s.pins with rxdBusy := false }, port := { s.port with deaf := false } }

/-- RECEIVE_BYTE (R173): a start bit holds off the gap timer (R174); a byte is not received while reset is asserted, nor
when its start bit began before release (R181, R183). -/
def receiveByte (data : Byte) (edge : CharEdge) (s : State) : State :=
  match edge with
  | .starts => s.rxdStarts
  | .ends => if s.assertedReset.isSome || s.port.deaf then s.rxdIdle else (s.rxdIdle.assemble data).restartGap

/-- GAP_TIMER_EXPIRY (R174): no start bit has come within 2,000 µs of the last byte of an unfinished frame. -/
def gapTimerExpiry (s : State) : State :=
  match s.port.gapEnd with
  | none => s
  | some t => if s.pins.rxdBusy then s else (s.advance t).discard .truncated

/-! ### REPLY_SENT (R177, R182) -/

/-- No request is in handling. -/
def State.idlePort (s : State) : State := { s with port := { s.port with handling := none } }

/-- The request in handling is an ENGINE RESET that was taken (R182). -/
def Handling.resets (h : Handling) : Bool := decide (h.code = engineResetCode) && decide (h.reply.status = .ok)

/-- REPLY_SENT (R177): the next buffered request is taken in the same event; after ENGINE RESET's reply a REQUEST reset
begins (R182). -/
def replySent (s : State) : State :=
  match s.port.handling with
  | none => s
  | some h => if h.resets then (s.advance h.endsAt).beginReset .request else ((s.advance h.endsAt).idlePort).takeRequest

end Sys2Proof.Machine
end

