-- ==== Sys2Proof/Machine/Clock.lean ====
section
/-!
DEFINITION. The part's own timers: which of their events are due, and what the part does with no command waiting (logs 2
and 4): the next event of its own is put in the queue, or one tick of 125 ns passes.
-/
namespace Sys2Proof.Machine

/-- A running timer of the part: when it ends, and the event that its end is. -/
structure Timer where
  deadline : Nat
  event : Instr
  deriving DecidableEq, Repr

/-- A timer that may be stopped. -/
def timer? (deadline : Option Nat) (event : Instr) : List Timer := deadline.toList.map fun d => ⟨d, event⟩

/-- The end of the phase that a zone in FRAME plays (R81). -/
def Zone.phaseStop (z : Zone) : Option Nat := z.phase.map Phase.stop

/-- The frame timer's deadline of a zone in INTERVAL (R88). -/
def Zone.frameDeadline (z : Zone) : Option Nat :=
  z.active.bind fun a => a.play.bind fun p => if p.phase.isSome then none else p.deadline

/-- The end of a high half that the zone's driver holds (R70); none where the end of the half that the zone's generator now
runs is the end of that high half too, so that the generator's own event ends both. -/
def State.emissionStop (s : State) (z : Fin 8) : Option Nat :=
  match (s.zone z).emission with
  | none => none
  | some e =>
    match (s.zone z).binding.bind fun g => (s.generator g).wave with
    | none => some e.stop
    | some w => if w.high && decide (w.stop = e.stop) then none else some e.stop

/-- The timers of a zone: phase, frame timer, quiet time, completing high half. -/
def State.zoneTimers (s : State) (z : Fin 8) : List Timer :=
  timer? (s.zone z).phaseStop (.phaseEnd z) ++ timer? (s.zone z).frameDeadline (.frameTimerExpiry z)
    ++ timer? (s.zone z).quietEnd (.quietTimeExpiry z) ++ timer? (s.emissionStop z) (.highHalfEnd (.driver z))

/-- The half of a RUNNING generator (R66). -/
def State.generatorTimers (s : State) (g : Fin 4) : List Timer :=
  match (s.generator g).wave with
  | none => []
  | some w => [⟨w.stop, if w.high then .highHalfEnd (.generator g) else .highHalfStart g⟩]

/-- The debounce timer of a line (R129). -/
def State.lineTimers (s : State) (n : Fin 4) : List Timer := timer? (s.line n).debounceEnd (.debounceExpiry n)

/-- The timers of the Message Port: the gap timer, with no start bit come (R174), and the reply's last stop bit (R177). -/
def State.portTimers (s : State) : List Timer :=
  (if s.pins.rxdBusy then [] else timer? s.port.gapEnd .gapTimerExpiry)
    ++ timer? (s.port.handling.map Handling.endsAt) .replySent

/-- The timers of a running session: start timeout (R147), end gap (R148), stuck mark (R147), the former's 160 µs
(R145). -/
def Session.timers (c : Session) : List Timer :=
  (if c.state = .armed then [⟨c.timeoutAt, .startTimeoutExpiry⟩] else [])
    ++ match c.former with
      | .initial (some t) => [⟨t + Config.windowTicks, .initialSpaceRecognised⟩]
      | .initial none => []
      | .space (some t) =>
        if c.state = .recording then [⟨t + c.endGap * Config.ticksPerUs, .endGapExpiry⟩] else []
      | .space none => []
      | .mark start lastRise fall =>
        (if c.state = .recording then [⟨start + Config.stuckTicks, .stuckMark⟩] else [])
          ++ (if c.source ≠ .capd ∧ fall.isSome then [⟨lastRise + Config.windowTicks, .markEndTimeout⟩] else [])

/-- Every running timer of the part. While reset is asserted only the 50 µs of a REQUEST reset runs (R181). -/
def State.timers (s : State) : List Timer :=
  match s.assertedReset with
  | some .request => [⟨Config.requestResetTicks, .requestResetExpiry⟩]
  | some _ => []
  | none =>
    ⟨s.arbiter.slotEnd, .slotBoundary⟩ :: allZones.flatMap s.zoneTimers ++ allGenerators.flatMap s.generatorTimers
      ++ allLines.flatMap s.lineTimers ++ s.portTimers ++ (s.runningSession.elim [] Session.timers)

/-- The events whose time has come. -/
def State.due (s : State) : List Instr :=
  (s.timers.filter fun t => decide (t.deadline ≤ s.ticks)).map Timer.event

/-- The edge of the loopback waveform that a running LOOPBACK session has not taken yet (R146). -/
def State.loopbackEdge (s : State) : Option Instr :=
  match s.runningSession with
  | none => none
  | some c =>
    match c.source with
    | .loopback z =>
      if s.loopback z = c.former.level then none
      else some (if s.loopback z then .captureRisingEdge .loopback else .captureFallingEdge .loopback)
    | _ => none

/-- One of several events due at one instant, by a free value (log 4). -/
def State.choose (s : State) (first : Instr) (rest : List Instr) : State :=
  if rest = [] then { s with pending := [first] }
  else { s with pending := [(first :: rest).getD (Config.dueChoice s.freeCount % (rest.length + 1)) first], freeCount := s.freeCount + 1 }

/-- With no command waiting: the part's next event joins the queue, or one tick passes (logs 2 and 4). -/
def State.idle (s : State) : State :=
  match s.due with
  | first :: rest => s.choose first rest
  | [] => match s.loopbackEdge with
    | some edge => { s with pending := [edge] }
    | none => s.tick

end Sys2Proof.Machine
end

