-- ==== Sys2Proof/Machine/Events.lean ====
section
/-!
DEFINITION. The meanings of the event commands: bytes on the link, the part's timers, its pins and its supply.
-/
namespace Sys2Proof.Machine

/-- RECEIVE_BYTE (R173). -/
def execReceiveByte (data : Byte) (edge : CharEdge) (s : State) : Host.Outcome State Fault Refusal := .next (receiveByte data edge s)

/-- GAP_TIMER_EXPIRY (R174). -/
def execGapTimerExpiry (s : State) : Host.Outcome State Fault Refusal := .next (gapTimerExpiry s)

/-- REPLY_SENT (R177, R182). -/
def execReplySent (s : State) : Host.Outcome State Fault Refusal := .next (replySent s)

/-- SUPPLY_RISE (R181). -/
def execSupplyRise (s : State) : Host.Outcome State Fault Refusal := .next (supplyRise s)

/-- RESET_N_LOW (R181, R182). -/
def execResetNLow (s : State) : Host.Outcome State Fault Refusal := .next (resetNLow s)

/-- RESET_N_HIGH (R181). -/
def execResetNHigh (s : State) : Host.Outcome State Fault Refusal := .next (resetNHigh s)

/-- REQUEST_RESET_EXPIRY (R181). -/
def execRequestResetExpiry (s : State) : Host.Outcome State Fault Refusal := .next (requestResetExpiry s)

/-- SLOT_BOUNDARY (R45, R49, R52 to R54). -/
def execSlotBoundary (s : State) : Host.Outcome State Fault Refusal := .next (slotBoundary s)

/-- PHASE_END (R81, R88, R90, R92). -/
def execPhaseEnd (z : Fin 8) (s : State) : Host.Outcome State Fault Refusal := .next (phaseEnd z s)

/-- FRAME_TIMER_EXPIRY (R89). -/
def execFrameTimerExpiry (z : Fin 8) (s : State) : Host.Outcome State Fault Refusal := .next (frameTimerExpiry z s)

/-- QUIET_TIME_EXPIRY (R123). -/
def execQuietTimeExpiry (z : Fin 8) (s : State) : Host.Outcome State Fault Refusal := .next (quietTimeExpiry z s)

/-- DRIVER_FAULT (R116 to R118). -/
def execDriverFault (z : Fin 8) (report : Condition) (s : State) : Host.Outcome State Fault Refusal := .next (driverReport z report s)

/-- TRIG_PIN_CHANGE (R129). -/
def execTrigPinChange (line : Fin 4) (level : Bool) (s : State) : Host.Outcome State Fault Refusal := .next (trigPinChange line level s)

/-- DEBOUNCE_EXPIRY (R129, R131 to R135). -/
def execDebounceExpiry (line : Fin 4) (s : State) : Host.Outcome State Fault Refusal := .next (debounceExpiry line s)

/-- CAPD_EDGE (R144, R147). -/
def execCapdEdge (level : Bool) (s : State) : Host.Outcome State Fault Refusal := .next (capdEdge level s)

/-- CAPTURE_RISING_EDGE (R145 to R147). -/
def execCaptureRisingEdge (input : EdgeInput) (s : State) : Host.Outcome State Fault Refusal := .next (captureRisingEdge input s)

/-- CAPTURE_FALLING_EDGE (R145 to R147). -/
def execCaptureFallingEdge (input : EdgeInput) (s : State) : Host.Outcome State Fault Refusal := .next (captureFallingEdge input s)

/-- MARK_END_TIMEOUT (R145, R147). -/
def execMarkEndTimeout (s : State) : Host.Outcome State Fault Refusal := .next (markEndTimeout s)

/-- START_TIMEOUT_EXPIRY (R147). -/
def execStartTimeoutExpiry (s : State) : Host.Outcome State Fault Refusal := .next (startTimeoutExpiry s)

/-- END_GAP_EXPIRY (R148). -/
def execEndGapExpiry (s : State) : Host.Outcome State Fault Refusal := .next (endGapExpiry s)

/-- STUCK_MARK (R147). -/
def execStuckMark (s : State) : Host.Outcome State Fault Refusal := .next (stuckMark s)

/-- SUPPLY_STABLE (R181). -/
def execSupplyStable (s : State) : Host.Outcome State Fault Refusal := .next (supplyStable s)

/-- SUPPLY_FAILURE (R182). -/
def execSupplyFailure (s : State) : Host.Outcome State Fault Refusal := .next (supplyFailure s)

/-- HIGH_HALF_START (R66, R84). -/
def execHighHalfStart (g : Fin 4) (s : State) : Host.Outcome State Fault Refusal := .next (highHalfStart g s)

/-- HIGH_HALF_END (R70, R84). -/
def execHighHalfEnd (owner : HalfOwner) (s : State) : Host.Outcome State Fault Refusal := .next (highHalfEnd owner s)

/-- INITIAL_SPACE_RECOGNISED (R145). -/
def execInitialSpaceRecognised (s : State) : Host.Outcome State Fault Refusal := .next (initialSpaceRecognised s)

end Sys2Proof.Machine
end

