-- ==== Sys2Proof/Machine/Requests.lean ====
section
/-!
DEFINITION. The meanings of the thirty-two request commands: a complete, correct request frame reaches the port (log 9),
which hands it to the owning block's answer and starts the reply, or keeps the frame (R176, R177).
-/
namespace Sys2Proof.Machine

/-- TEMPLATE BEGIN (R10). -/
def execTemplateBegin (seq : Byte) (index : Byte) (header : TemplateHeader) (s : State) : Host.Outcome State Fault Refusal :=
  .next (s.request seq (.templateBegin index header))

/-- TEMPLATE APPEND (R11). -/
def execTemplateAppend (seq : Byte) (selector : Byte) (elements : List ElementRecord) (s : State) : Host.Outcome State Fault Refusal :=
  .next (s.request seq (.templateAppend selector elements))

/-- TEMPLATE COMMIT (R13 to R16). -/
def execTemplateCommit (seq : Byte) (s : State) : Host.Outcome State Fault Refusal :=
  .next (s.request seq .templateCommit)

/-- TEMPLATE ABANDON (R12). -/
def execTemplateAbandon (seq : Byte) (s : State) : Host.Outcome State Fault Refusal :=
  .next (s.request seq .templateAbandon)

/-- TEMPLATE DELETE (R17). -/
def execTemplateDelete (seq : Byte) (index : Byte) (s : State) : Host.Outcome State Fault Refusal :=
  .next (s.request seq (.templateDelete index))

/-- TEMPLATE QUERY (R18). -/
def execTemplateQuery (seq : Byte) (index offset : Byte) (s : State) : Host.Outcome State Fault Refusal :=
  .next (s.request seq (.templateQuery index offset))

/-- LIBRARY QUERY (R19). -/
def execLibraryQuery (seq : Byte) (s : State) : Host.Outcome State Fault Refusal :=
  .next (s.request seq .libraryQuery)

/-- ZONE SETUP (R29, R30). -/
def execZoneSetup (seq : Byte) (zone enabled bands group dark : Byte) (s : State) : Host.Outcome State Fault Refusal :=
  .next (s.request seq (.zoneSetup zone enabled bands group dark))

/-- ZONE QUERY (R42, R43). -/
def execZoneQuery (seq : Byte) (zone : Byte) (s : State) : Host.Outcome State Fault Refusal :=
  .next (s.request seq (.zoneQuery zone))

/-- ZONE RESET (R122). -/
def execZoneReset (seq : Byte) (zone : Byte) (s : State) : Host.Outcome State Fault Refusal :=
  .next (s.request seq (.zoneReset zone))

/-- FAULT CLEAR (R120). -/
def execFaultClear (seq : Byte) (zone : Byte) (s : State) : Host.Outcome State Fault Refusal :=
  .next (s.request seq (.faultClear zone))

/-- JOB SUBMIT (R33, R34). -/
def execJobSubmit (seq : Byte) (record : JobSubmitRecord) (s : State) : Host.Outcome State Fault Refusal :=
  .next (s.request seq (.jobSubmit record))

/-- JOB RELEASE (R97 to R101). -/
def execJobRelease (seq : Byte) (zone : Byte) (tag : Half) (s : State) : Host.Outcome State Fault Refusal :=
  .next (s.request seq (.jobRelease zone tag))

/-- JOB CANCEL (R104 to R110). -/
def execJobCancel (seq : Byte) (zone : Byte) (tag : Half) (mode : Byte) (s : State) : Host.Outcome State Fault Refusal :=
  .next (s.request seq (.jobCancel zone tag mode))

/-- ZONE FLUSH (R112, R113). -/
def execZoneFlush (seq : Byte) (zone action : Byte) (s : State) : Host.Outcome State Fault Refusal :=
  .next (s.request seq (.zoneFlush zone action))

/-- COMPLETION TAKE (R40). -/
def execCompletionTake (seq : Byte) (zone : Byte) (s : State) : Host.Outcome State Fault Refusal :=
  .next (s.request seq (.completionTake zone))

/-- SLOT PLAN (R48). -/
def execSlotPlan (seq : Byte) (length : Half) (masks : Vector Half 8) (s : State) : Host.Outcome State Fault Refusal :=
  .next (s.request seq (.slotPlan length masks))

/-- SLOT QUERY (R59). -/
def execSlotQuery (seq : Byte) (selector : Byte) (s : State) : Host.Outcome State Fault Refusal :=
  .next (s.request seq (.slotQuery selector))

/-- CARRIER QUERY (R73). -/
def execCarrierQuery (seq : Byte) (s : State) : Host.Outcome State Fault Refusal :=
  .next (s.request seq .carrierQuery)

/-- TIME QUERY (R64). -/
def execTimeQuery (seq : Byte) (s : State) : Host.Outcome State Fault Refusal :=
  .next (s.request seq .timeQuery)

/-- TRIGGER BIND (R137). -/
def execTriggerBind (seq : Byte) (line : Byte) (binding : Option BindingRecord) (s : State) : Host.Outcome State Fault Refusal :=
  .next (s.request seq (.triggerBind line binding))

/-- TRIGGER QUERY (R139). -/
def execTriggerQuery (seq : Byte) (line : Byte) (s : State) : Host.Outcome State Fault Refusal :=
  .next (s.request seq (.triggerQuery line))

/-- CAPTURE ARM (R143). -/
def execCaptureArm (seq : Byte) (source zone : Byte) (startTimeout endGap maxEntries : Half) (s : State) : Host.Outcome State Fault Refusal :=
  .next (s.request seq (.captureArm source zone startTimeout endGap maxEntries))

/-- CAPTURE STOP (R151). -/
def execCaptureStop (seq : Byte) (s : State) : Host.Outcome State Fault Refusal :=
  .next (s.request seq .captureStop)

/-- CAPTURE QUERY (R152). -/
def execCaptureQuery (seq : Byte) (s : State) : Host.Outcome State Fault Refusal :=
  .next (s.request seq .captureQuery)

/-- CAPTURE READ (R153). -/
def execCaptureRead (seq : Byte) (offset : Half) (count : Byte) (s : State) : Host.Outcome State Fault Refusal :=
  .next (s.request seq (.captureRead offset count))

/-- NOTICE FETCH (R163 to R165). -/
def execNoticeFetch (seq : Byte) (source : Option Byte) (s : State) : Host.Outcome State Fault Refusal :=
  .next (s.request seq (.noticeFetch source))

/-- NOTICE PEEK (R167). -/
def execNoticePeek (seq : Byte) (s : State) : Host.Outcome State Fault Refusal :=
  .next (s.request seq .noticePeek)

/-- NOTICE ACK (R168). -/
def execNoticeAck (seq : Byte) (source : Option Byte) (s : State) : Host.Outcome State Fault Refusal :=
  .next (s.request seq (.noticeAck source))

/-- NOTICE SETUP (R169). -/
def execNoticeSetup (seq : Byte) (threshold : Byte) (entries : List SourceEntry) (s : State) : Host.Outcome State Fault Refusal :=
  .next (s.request seq (.noticeSetup threshold entries))

/-- IDENTIFY (R180). -/
def execIdentify (seq : Byte) (s : State) : Host.Outcome State Fault Refusal :=
  .next (s.request seq .identify)

/-- ENGINE RESET (R182). -/
def execEngineReset (seq : Byte) (s : State) : Host.Outcome State Fault Refusal :=
  .next (s.request seq .engineReset)

end Sys2Proof.Machine
end

