-- ==== Sys2Proof/Machine/Dispatch.lean ====
section
/-! DEFINITION. One arm per command. -/
namespace Sys2Proof.Machine

def exec (i : Instr) (s : State) : Host.Outcome State Fault Refusal :=
  match i with
  | .templateBegin seq index header => Sys2Proof.Machine.execTemplateBegin seq index header s
  | .templateAppend seq selector elements => Sys2Proof.Machine.execTemplateAppend seq selector elements s
  | .templateCommit seq => Sys2Proof.Machine.execTemplateCommit seq s
  | .templateAbandon seq => Sys2Proof.Machine.execTemplateAbandon seq s
  | .templateDelete seq index => Sys2Proof.Machine.execTemplateDelete seq index s
  | .templateQuery seq index offset => Sys2Proof.Machine.execTemplateQuery seq index offset s
  | .libraryQuery seq => Sys2Proof.Machine.execLibraryQuery seq s
  | .zoneSetup seq zone enabled bands group dark => Sys2Proof.Machine.execZoneSetup seq zone enabled bands group dark s
  | .zoneQuery seq zone => Sys2Proof.Machine.execZoneQuery seq zone s
  | .zoneReset seq zone => Sys2Proof.Machine.execZoneReset seq zone s
  | .faultClear seq zone => Sys2Proof.Machine.execFaultClear seq zone s
  | .jobSubmit seq record => Sys2Proof.Machine.execJobSubmit seq record s
  | .jobRelease seq zone tag => Sys2Proof.Machine.execJobRelease seq zone tag s
  | .jobCancel seq zone tag mode => Sys2Proof.Machine.execJobCancel seq zone tag mode s
  | .zoneFlush seq zone action => Sys2Proof.Machine.execZoneFlush seq zone action s
  | .completionTake seq zone => Sys2Proof.Machine.execCompletionTake seq zone s
  | .slotPlan seq length masks => Sys2Proof.Machine.execSlotPlan seq length masks s
  | .slotQuery seq selector => Sys2Proof.Machine.execSlotQuery seq selector s
  | .carrierQuery seq => Sys2Proof.Machine.execCarrierQuery seq s
  | .timeQuery seq => Sys2Proof.Machine.execTimeQuery seq s
  | .triggerBind seq line binding => Sys2Proof.Machine.execTriggerBind seq line binding s
  | .triggerQuery seq line => Sys2Proof.Machine.execTriggerQuery seq line s
  | .captureArm seq source zone startTimeout endGap maxEntries => Sys2Proof.Machine.execCaptureArm seq source zone startTimeout endGap maxEntries s
  | .captureStop seq => Sys2Proof.Machine.execCaptureStop seq s
  | .captureQuery seq => Sys2Proof.Machine.execCaptureQuery seq s
  | .captureRead seq offset count => Sys2Proof.Machine.execCaptureRead seq offset count s
  | .noticeFetch seq source => Sys2Proof.Machine.execNoticeFetch seq source s
  | .noticePeek seq => Sys2Proof.Machine.execNoticePeek seq s
  | .noticeAck seq source => Sys2Proof.Machine.execNoticeAck seq source s
  | .noticeSetup seq threshold entries => Sys2Proof.Machine.execNoticeSetup seq threshold entries s
  | .identify seq => Sys2Proof.Machine.execIdentify seq s
  | .engineReset seq => Sys2Proof.Machine.execEngineReset seq s
  | .receiveByte data edge => Sys2Proof.Machine.execReceiveByte data edge s
  | .gapTimerExpiry => Sys2Proof.Machine.execGapTimerExpiry s
  | .replySent => Sys2Proof.Machine.execReplySent s
  | .supplyRise => Sys2Proof.Machine.execSupplyRise s
  | .resetNLow => Sys2Proof.Machine.execResetNLow s
  | .resetNHigh => Sys2Proof.Machine.execResetNHigh s
  | .requestResetExpiry => Sys2Proof.Machine.execRequestResetExpiry s
  | .slotBoundary => Sys2Proof.Machine.execSlotBoundary s
  | .phaseEnd z => Sys2Proof.Machine.execPhaseEnd z s
  | .frameTimerExpiry z => Sys2Proof.Machine.execFrameTimerExpiry z s
  | .quietTimeExpiry z => Sys2Proof.Machine.execQuietTimeExpiry z s
  | .driverFault z report => Sys2Proof.Machine.execDriverFault z report s
  | .trigPinChange line level => Sys2Proof.Machine.execTrigPinChange line level s
  | .debounceExpiry line => Sys2Proof.Machine.execDebounceExpiry line s
  | .capdEdge level => Sys2Proof.Machine.execCapdEdge level s
  | .captureRisingEdge input => Sys2Proof.Machine.execCaptureRisingEdge input s
  | .captureFallingEdge input => Sys2Proof.Machine.execCaptureFallingEdge input s
  | .markEndTimeout => Sys2Proof.Machine.execMarkEndTimeout s
  | .startTimeoutExpiry => Sys2Proof.Machine.execStartTimeoutExpiry s
  | .endGapExpiry => Sys2Proof.Machine.execEndGapExpiry s
  | .stuckMark => Sys2Proof.Machine.execStuckMark s
  | .supplyStable => Sys2Proof.Machine.execSupplyStable s
  | .supplyFailure => Sys2Proof.Machine.execSupplyFailure s
  | .highHalfStart g => Sys2Proof.Machine.execHighHalfStart g s
  | .highHalfEnd owner => Sys2Proof.Machine.execHighHalfEnd owner s
  | .initialSpaceRecognised => Sys2Proof.Machine.execInitialSpaceRecognised s

end Sys2Proof.Machine
end

