-- ==== Sys2Proof/Safety.lean ====
section
/-!
DEFINITION. The words the statements are made in: when the port takes a request at once, what a reply is, the requests a
command carries, and the laws of the manual that every step keeps.
-/
namespace Sys2Proof.Machine

/-! ### The port -/

/-- The port takes a request command at once: no reset is asserted, nothing is in handling, nothing waits (R177). -/
abbrev State.ready (s : State) : Prop := s.assertedReset = none ∧ s.port.handling = none ∧ s.port.buffer = []

/-- The state that sends the reply of this status and these fields to the request of this code (R172, R177). -/
def State.replying (s : State) (code seq : Byte) (status : Status) (fields : ReplyFields) : State :=
  s.startReply code { code := code + 0x80#8, seq := seq, status := status, fields := fields }

/-- The byte that carries an index. -/
def byteOf {n : Nat} (i : Fin n) : Byte := BitVec.ofNat 8 i.val

/-- The request that a request command brings with this sequence number; none for an event. -/
def requestOf : Instr → Option (Byte × Request)
  | .templateBegin q i h => some (q, .templateBegin i h)
  | .templateAppend q sel es => some (q, .templateAppend sel es)
  | .templateCommit q => some (q, .templateCommit)
  | .templateAbandon q => some (q, .templateAbandon)
  | .templateDelete q i => some (q, .templateDelete i)
  | .templateQuery q i o => some (q, .templateQuery i o)
  | .libraryQuery q => some (q, .libraryQuery)
  | .zoneSetup q z e b g d => some (q, .zoneSetup z e b g d)
  | .zoneQuery q z => some (q, .zoneQuery z)
  | .zoneReset q z => some (q, .zoneReset z)
  | .faultClear q z => some (q, .faultClear z)
  | .jobSubmit q r => some (q, .jobSubmit r)
  | .jobRelease q z t => some (q, .jobRelease z t)
  | .jobCancel q z t m => some (q, .jobCancel z t m)
  | .zoneFlush q z a => some (q, .zoneFlush z a)
  | .completionTake q z => some (q, .completionTake z)
  | .slotPlan q l ms => some (q, .slotPlan l ms)
  | .slotQuery q sel => some (q, .slotQuery sel)
  | .carrierQuery q => some (q, .carrierQuery)
  | .timeQuery q => some (q, .timeQuery)
  | .triggerBind q n b => some (q, .triggerBind n b)
  | .triggerQuery q n => some (q, .triggerQuery n)
  | .captureArm q src z t g m => some (q, .captureArm src z t g m)
  | .captureStop q => some (q, .captureStop)
  | .captureQuery q => some (q, .captureQuery)
  | .captureRead q o c => some (q, .captureRead o c)
  | .noticeFetch q n => some (q, .noticeFetch n)
  | .noticePeek q => some (q, .noticePeek)
  | .noticeAck q n => some (q, .noticeAck n)
  | .noticeSetup q t es => some (q, .noticeSetup t es)
  | .identify q => some (q, .identify)
  | .engineReset q => some (q, .engineReset)
  | _ => none

/-- A body of this code and these fields is refused by the port with this status: UNKNOWN for a code of no request,
BAD_LENGTH for fields that no request of the code has with lengths that R178 accepts. -/
def UnreadBody (code : Byte) (f : List Byte) (status : Status) : Prop :=
  (status = .unknown ∧ ∀ r, requestCode r ≠ code)
    ∨ status = .badLength ∧ (∃ r, requestCode r = code)
      ∧ ∀ r, requestCode r = code → r.lengthOk = true → requestFields r ≠ f

/-! ### Reading the operands of the library's requests and of ZONE SETUP -/

/-- The header passes the checks of R10. -/
abbrev HeaderDefined (h : TemplateHeader) : Prop :=
  (h.carrierHigh = 0 ↔ h.carrierLow = 0) ∧ 1 ≤ h.zeroMark.toNat ∧ 1 ≤ h.zeroSpace.toNat ∧ 1 ≤ h.oneMark.toNat
    ∧ 1 ≤ h.oneSpace.toNat ∧ h.minRepeats.toNat ≤ 15 ∧ 2 ≤ h.holdLimit.toNat ∧ h.holdLimit.toNat ≤ 4096

/-- What an element record stands for (R4, R11 check 3, Table 11-4). -/
def ElementRead (e : ElementRecord) : Element → Prop
  | .mark d => e.kind = 0x01#8 ∧ d = e.duration.toNat ∧ 1 ≤ d
  | .space d => e.kind = 0x02#8 ∧ d = e.duration.toNat ∧ 1 ≤ d
  | .dataNext c => e.kind = 0x03#8 ∧ c = e.count.toNat ∧ 1 ≤ c ∧ c ≤ 64
  | .dataEcho c => e.kind = 0x04#8 ∧ c = e.count.toNat ∧ 1 ≤ c ∧ c ≤ 64
  | .toggle => e.kind = 0x05#8

/-- The list selector of TEMPLATE APPEND (Table 11-8). -/
def selectorOf : ListName → Byte
  | .main => 0x00#8
  | .rep => 0x01#8

/-- Most elements of a list (R4). -/
def listCapacity : ListName → Nat
  | .main => 48
  | .rep => 16

/-- The bits taken at a position of a list (R5). -/
def bitsTakenAt (elements : List Element) (position : Nat) : Nat := dataBits (elements.take position)

/-- The staged contents pass the seven checks of R14. -/
def ValidStaging (st : Staging) : Prop :=
  st.main ≠ [] ∧ (∃ e ∈ st.main, e.bearsMark = true) ∧ (st.rep = [] ∨ ∃ e ∈ st.rep, e.bearsMark = true)
    ∧ dataBits st.main ≤ 64
    ∧ (∀ p c, st.main[p]? = some (.dataEcho c) → c ≤ bitsTakenAt st.main p)
    ∧ (∀ p c, st.rep[p]? = some (.dataEcho c) → c ≤ bitsTakenAt st.rep p)
    ∧ dataBits st.rep ≤ dataBits st.main
    ∧ (st.header.leadPeriod = 0 ∨ (1000 ≤ st.header.leadPeriod.toNat ∧ st.header.leadPeriod.toNat ≤ 1000000))
    ∧ (st.header.repeatPeriod = 0 ∨ (1000 ≤ st.header.repeatPeriod.toNat ∧ st.header.repeatPeriod.toNat ≤ 1000000))
    ∧ 1 + st.header.minRepeats.toNat ≤ st.header.holdLimit.toNat

/-- The DATA NEXT sum of a list first exceeds a limit at this position (R14). -/
def OverAt (limit : Nat) (elements : List Element) (position : Nat) : Prop :=
  position < elements.length ∧ dataBits (elements.take position) ≤ limit ∧ limit < dataBits (elements.take (position + 1))

/-- The first DATA ECHO of a list whose count is greater than the bits taken at its position stands at this one (R14). -/
def EchoAt (elements : List Element) (position : Nat) : Prop :=
  (∃ c, elements[position]? = some (.dataEcho c) ∧ bitsTakenAt elements position < c)
    ∧ ∀ q c, q < position → elements[q]? = some (.dataEcho c) → c ≤ bitsTakenAt elements q

/-- A period outside what R3 and R14 check 6 allow. -/
def PeriodBad (p : Word) : Prop := p ≠ 0 ∧ (p.toNat < 1000 ∨ 1000000 < p.toNat)

/-- The staged contents fail the check of this reason, at this list and position (R14). -/
def FailsCheck (st : Staging) : Invalid → Prop
  | .emptyMain => st.main = []
  | .noMark .main => ∀ e ∈ st.main, ∃ d, e = .space d
  | .noMark .rep => st.rep ≠ [] ∧ ∀ e ∈ st.rep, ∃ d, e = .space d
  | .dataOver64 p => OverAt 64 st.main p
  | .echoExceeds .main p => EchoAt st.main p
  | .echoExceeds .rep p => EchoAt st.rep p
  | .repeatDataExceeds p => OverAt (dataBits st.main) st.rep p
  | .periodRange .main => PeriodBad st.header.leadPeriod
  | .periodRange .rep => PeriodBad st.header.repeatPeriod
  | .holdBelowMin => st.header.holdLimit.toNat < 1 + st.header.minRepeats.toNat

/-- The order of the checks of R14, the main list before the repeat list and the lead period first within a check. -/
def checkRank : Invalid → Nat
  | .emptyMain => 0
  | .noMark .main => 1
  | .noMark .rep => 2
  | .dataOver64 _ => 3
  | .echoExceeds .main _ => 4
  | .echoExceeds .rep _ => 5
  | .repeatDataExceeds _ => 6
  | .periodRange .main => 7
  | .periodRange .rep => 8
  | .holdBelowMin => 9

/-- The band of a header, from its widths (R2). -/
def headerBand (h : TemplateHeader) : Band :=
  if h.carrierHigh = 0 ∧ h.carrierLow = 0 then .baseband
  else if 100 ≤ h.carrierHigh.toNat + h.carrierLow.toNat then .lf else .hf

/-- A yes or no field that may be absent holds a defined value (R29, R178). -/
abbrev YesNoDefined (b : Byte) : Prop := b = 0x00#8 ∨ b = 0x01#8 ∨ b = 0xFF#8

/-- Every present field of a ZONE SETUP holds a defined value (R29 check 1, Table 11-8; log 18 for the band set). -/
abbrev SetupDefined (enabled bands group dark : Byte) : Prop :=
  YesNoDefined enabled ∧ (bands.toNat < 8 ∨ bands = 0xFF#8) ∧ (group.toNat ≤ 4 ∨ group = 0xFF#8) ∧ YesNoDefined dark

/-- The configuration after a ZONE SETUP with these fields (R29): an absent field leaves its part unchanged. -/
def configAfter (c : ZoneConfig) (enabled bands group dark : Byte) : ZoneConfig :=
  { enabled := if enabled = 0xFF#8 then c.enabled else decide (enabled = 0x01#8)
    hostBands := if bands = 0xFF#8 then c.hostBands
      else { baseband := bands.getLsbD 0, lf := bands.getLsbD 1, hf := bands.getLsbD 2 }
    strap := c.strap
    group := if group = 0xFF#8 then c.group else if h : group.toNat < 4 then some ⟨group.toNat, h⟩ else none
    dark := if dark = 0xFF#8 then c.dark else decide (dark = 0x01#8) }

/-- The zone is in this state by its records (R31). STALLED is read with R35: a zone that could activate does not remain. -/
def StateHolds (zn : Zone) : ZoneState → Prop
  | .resetting => zn.quietEnd ≠ none
  | .disabled => zn.quietEnd = none ∧ zn.config.enabled = false
  | .waiting => zn.quietEnd = none ∧ zn.config.enabled = true ∧ ∃ a, zn.active = some a ∧ a.play = none
  | .frame => zn.quietEnd = none ∧ zn.config.enabled = true
      ∧ ∃ a p ph, zn.active = some a ∧ a.play = some p ∧ p.phase = some ph
  | .interval => zn.quietEnd = none ∧ zn.config.enabled = true
      ∧ ∃ a p, zn.active = some a ∧ a.play = some p ∧ p.phase = none
  | .faulted => zn.quietEnd = none ∧ zn.config.enabled = true ∧ zn.active = none ∧ zn.condition ≠ .normal
  | .idle => zn.quietEnd = none ∧ zn.config.enabled = true ∧ zn.active = none ∧ zn.condition = .normal ∧ zn.queue = []
  | .stalled => zn.quietEnd = none ∧ zn.config.enabled = true ∧ zn.active = none ∧ zn.condition = .normal ∧ zn.queue ≠ []

/-- The zone plays a mark: its gate is open (R82). -/
def PlaysMark (zn : Zone) : Prop :=
  ∃ a p ph, zn.active = some a ∧ a.play = some p ∧ p.phase = some ph ∧ ph.kind = .mark

/-- The zone's active job plays a template with carrier NONE (R2, R83). -/
def PlaysBaseband (s : State) (z : Fin 8) : Prop :=
  ∃ a, (s.zone z).active = some a ∧ (s.template a.job.template).header.carrierHigh = 0
    ∧ (s.template a.job.template).header.carrierLow = 0

/-! ### Reading the operands of JOB SUBMIT as R33 gives them -/

/-- The mode of a job submit record whose mode, repeats and override are defined (R33 check 1, Table 11-5). -/
def ModeRead (r : JobSubmitRecord) : JobMode → Prop
  | .tap n => r.mode = 0x00#8 ∧ n = r.repeats.toNat ∧ n ≤ 254 ∧ r.override = 0
  | .hold none => r.mode = 0x01#8 ∧ r.override = 0
  | .hold (some o) => r.mode = 0x01#8 ∧ o = r.override.toNat ∧ 1 ≤ o ∧ o ≤ 4096

/-- The override is outside 1 + minimum repeats to the hold limit of an installed template (R33 check 1). -/
def OverrideOutside (s : State) (i : Fin 64) : JobMode → Prop
  | .hold (some o) => ∃ t, (s.slot i).template = some t ∧ (o < 1 + t.header.minRepeats.toNat ∨ t.header.holdLimit.toNat < o)
  | _ => False

/-! ### Frames and the gate -/

/-- The play state of the frame that a job begins now (R87 steps 1, 3, 4 and 5, R76). -/
structure FrameBegun (s : State) (z : Fin 8) (a : ActiveJob) (now : Nat) (last : Option Nat) (p : PlayState) : Prop where
  number : p.frameNumber = a.framesStarted + 1
  list : p.list = if a.framesStarted = 0 ∨ (s.template a.job.template).rep = [] then .main else .rep
  cursor : p.cursor = { position := 0, bit := 0, half := .mark, taken := 0 }
  phase : p.phase = (p.cursor.phase (s.template a.job.template).header a.job.payload (s.zone z).toggles[a.job.template]
    ((s.template a.job.template).elements p.list)).map fun x => Phase.mk x.1 x.2 now
  noPeriod : p.deadline = none ↔ (if a.framesStarted = 0 then (s.template a.job.template).header.leadPeriod
    else (s.template a.job.template).header.repeatPeriod) = 0
  period : ∀ d, p.deadline = some d → d = now + 8 * (if a.framesStarted = 0
    then (s.template a.job.template).header.leadPeriod.toNat else (s.template a.job.template).header.repeatPeriod.toNat)
  last : p.lastPhaseEnd = last

/-- A job in its next frame (R87 steps 1 and 2). -/
def ActiveJob.begun (a : ActiveJob) (start : Word) (p : PlayState) : ActiveJob :=
  { a with framesStarted := a.framesStarted + 1, play := some p
           firstFrameStart := if a.framesStarted = 0 then some start else a.firstFrameStart }

/-- The high half a zone's output emits once its gate has gone from the first of these to the second, now (R84): a close
keeps a high half in progress but not one that begins at this instant; an opening emits one that begins at this instant,
unless an earlier one still completes. `wave` is the zone's generator's. -/
def gateEmission (zn : Zone) (wave : Option Wave) (now : Nat) : Bool → Bool → Option Emission
  | true, false => if ∃ e ∈ zn.emission, e.start = now then none else zn.emission
  | false, true =>
    match wave with
    | none => zn.emission
    | some w =>
      if w.high = true ∧ w.start = now ∧ ∀ e ∈ zn.emission, e.stop ≤ now then some ⟨now, w.stop, zn.config.dark⟩
      else zn.emission
  | _, _ => zn.emission

/-- The waveform of the generator that the zone's job is bound to. -/
def State.boundWave (s : State) (z : Fin 8) : Option Wave := (s.zone z).binding.bind fun g => (s.generator g).wave

/-- The gate of a zone has moved from how it stood: what its output emits follows (R84). -/
def State.regated (s : State) (z : Fin 8) (wasOpen : Bool) : State :=
  let out := gateEmission (s.zone z) (s.boundWave z) s.ticks wasOpen (s.zone z).gateOpen
  { s with zones := s.zones.set z { s.zone z with emission := out } }

/-! ### Reading the operands of TRIGGER BIND and CAPTURE ARM -/

/-- The mode and repeats of a binding record (R137 check 1, Table 11-8). -/
def BindModeRead (r : BindingRecord) : BindMode → Prop
  | .edgeTap n => r.mode = 0x00#8 ∧ n = r.repeats.toNat ∧ n ≤ 254
  | .edgeRetrigger n => r.mode = 0x01#8 ∧ n = r.repeats.toNat ∧ n ≤ 254
  | .levelHold => r.mode = 0x02#8

/-- The binding that a record stands for, when it passes check 1 of R137. -/
structure BindingRead (r : BindingRecord) (b : Binding) : Prop where
  zone : b.zone.val = r.zone.toNat
  template : b.template.val = r.template.toNat
  payload : b.payload = payloadBits r.payloadLength.toNat r.payload ∧ r.payloadLength.toNat ≤ 64
  tag : b.tag = r.tag
  mode : BindModeRead r b.mode
  debounce : b.debounce = r.debounce.toNat ∧ r.debounce.toNat ≤ 50000

/-- The source of a CAPTURE ARM; the zone is read for LOOPBACK alone (R143, Table 11-8). -/
def SourceRead (b zone : Byte) : CaptureSource → Prop
  | .capd => b = 0x00#8
  | .capc => b = 0x01#8
  | .loopback z => b = 0x02#8 ∧ z.val = zone.toNat

/-- The limits of a CAPTURE ARM pass check 1 of R143. -/
abbrev LimitsDefined (startTimeout endGap maxEntries : Half) : Prop :=
  1 ≤ startTimeout.toNat ∧ 1000 ≤ endGap.toNat ∧ 2 ≤ maxEntries.toNat ∧ maxEntries.toNat ≤ 512

/-! ### What a capture session becomes -/

/-- ARMED or RECORDING (R142). -/
abbrev Session.isRunning (c : Session) : Prop := c.state = .armed ∨ c.state = .recording

/-- A span as it is stored (R147): whole microseconds rounded down, 1 for less than one, 65,535 at most. -/
def durationOf (ticks : Nat) : Nat := if ticks < 8 then 1 else if 65535 < ticks / 8 then 65535 else ticks / 8

/-- The estimate at the end of the first mark (R149): k rising edges, the last this many ticks after the first. -/
def settledEstimate (k ticks : Nat) : Estimate := if 4 ≤ k then .present (ticks / (k - 1)) k else .none

/-- One more entry brings the list to the armed maximum (R148). -/
def Session.filled (c : Session) : Bool := decide (c.maxEntries ≤ c.list.length + 1)

/-- The session when its first mark starts now (R147). -/
def Session.afterStart (c : Session) (now : Nat) : Session :=
  { c with state := .recording, startTime := some (reading now), former := .mark now now none, edges := 1 }

/-- The session when a space since `start` ends at a mark start, now (R147, R148). -/
def Session.afterSpace (c : Session) (start now : Nat) : Session :=
  { c with list := c.list ++ [durationOf (now - start)], former := .mark now now none
           state := if c.filled then .done else c.state, truncated := c.truncated || c.filled }

/-- The session when a mark from `start`, with its last rising edge at `lastRise`, is recognised as ended at `fall`
(R147 to R149). -/
def Session.afterMark (c : Session) (start lastRise fall : Nat) : Session :=
  { c with list := c.list ++ [durationOf (fall - start)], former := .space (some fall)
           saturated := c.saturated || decide (65535 < (fall - start) / 8)
           estimate := if c.estimate = .pending then settledEstimate c.edges (lastRise - start) else c.estimate
           state := if c.filled then .done else c.state, truncated := c.truncated || c.filled }

/-- The part with this session, whose outcome is latched if it has just come to rest (R150). -/
def State.withSession (s : State) (c : Session) : State :=
  let copy : CaptureOutcome := { state := c.state, entries := c.list.length, saturated := c.saturated, truncated := c.truncated }
  let latch := if c.state = .armed ∨ c.state = .recording then s.notices.captureLatch else some copy
  { s with capture := some c, notices := { s.notices with captureLatch := latch } }

/-- The edge is one that the session's input makes (R145, R146): CAPC itself, or the loopback waveform of the named
zone, which has the level after the edge; and the former has not seen it. -/
def EdgeTaken (s : State) (c : Session) (input : EdgeInput) (level : Bool) : Prop :=
  c.former.level = !level ∧ (c.source = .capc ∧ input = .capc ∨ ∃ z, c.source = .loopback z ∧ input = .loopback ∧ s.loopback z = level)

/-! ### Reading the operands of NOTICE SETUP -/

/-- A source entry passes the checks of R169. -/
abbrev EntryDefined (e : SourceEntry) : Prop :=
  e.source.toNat ≤ 12 ∧ (e.priority.toNat ≤ 7 ∨ e.priority = 0xFF#8) ∧ YesNoDefined e.mask

/-- The settings of a source after an entry: absent fields stay (R169). -/
def settingAfter (old : SourceSetting) (e : SourceEntry) : SourceSetting :=
  { priority := if h : e.priority.toNat < 8 then ⟨e.priority.toNat, h⟩ else old.priority
    masked := if e.mask = 0xFF#8 then old.masked else decide (e.mask = 0x01#8) }

/-- The state `t` that a reset of this cause leaves `s` in: every block is reset and silent (R44, R74, R96, R126, R140, R155,
R170, R181, R183); the sampled straps stay until release (log 22). -/
structure InReset (s t : State) (cause : ResetCause) : Prop where
  asserted : t.assertedReset = some cause
  counter : t.timeBase = 0 ∧ t.ticks = 0
  quiet : t.attn = false ∧ t.txd = true ∧ ∀ z : Fin 8, t.zout z = false ∧ t.loopback z = false
  idlePort : t.port.handling = none ∧ t.port.buffer = [] ∧ t.port.assembler = .hunting ∧ t.port.gapEnd = none
    ∧ t.port.baud = s.port.baud
  library : t.library = Library.reset
  zones : ∀ z : Fin 8, t.zone z =
    { config := { enabled := true, hostBands := ⟨true, true, true⟩, strap := (s.zone z).config.strap, group := none, dark := false }
      queue := [], active := none, completions := [], toggles := Vector.replicate 64 false, quietEnd := none
      condition := .normal, openSeen := false, overloadSeen := false, emission := none }
  lines : ∀ n : Fin 4, t.line n = { binding := none, state := .unbound, taken := t.pins.trig[n], debounceEnd := none }
  arbiter : t.arbiter = Arbiter.reset
  generators : ∀ g : Fin 4, t.generator g = Generator.reset
  capture : t.capture = none
  latches : t.notices = Notices.reset none

/-! ### The part's own events -/

/-- The event of a running timer whose time has come: a timer with its deadline for each row (R45, R66, R70, R81, R88, R123,
R129, R145, R147, R148, R174, R177); while reset is asserted, the 50 µs of a REQUEST reset alone (R181). -/
def DueNow (s : State) (e : Instr) : Prop :=
  (s.assertedReset = some .request ∧ e = .requestResetExpiry ∧ 50 * 8 ≤ s.ticks) ∨
  s.assertedReset = none ∧ match e with
    | .slotBoundary => s.arbiter.slotEnd ≤ s.ticks
    | .phaseEnd z => ∃ a p ph, (s.zone z).active = some a ∧ a.play = some p ∧ p.phase = some ph
        ∧ ph.start + ph.duration * 8 ≤ s.ticks
    | .frameTimerExpiry z => ∃ a p d, (s.zone z).active = some a ∧ a.play = some p ∧ p.phase = none ∧ p.deadline = some d
        ∧ d ≤ s.ticks
    | .quietTimeExpiry z => ∃ d, (s.zone z).quietEnd = some d ∧ d ≤ s.ticks
    | .highHalfStart g => ∃ w, (s.generator g).wave = some w ∧ w.high = false ∧ w.stop ≤ s.ticks
    | .highHalfEnd (.generator g) => ∃ w, (s.generator g).wave = some w ∧ w.high = true ∧ w.stop ≤ s.ticks
    | .highHalfEnd (.driver z) => ∃ out, (s.zone z).emission = some out ∧ out.stop ≤ s.ticks
        ∧ ∀ w, s.boundWave z = some w → ¬ (w.high = true ∧ w.stop = out.stop)
    | .debounceExpiry n => ∃ d, (s.line n).debounceEnd = some d ∧ d ≤ s.ticks
    | .gapTimerExpiry => s.pins.rxdBusy = false ∧ ∃ d, s.port.gapEnd = some d ∧ d ≤ s.ticks
    | .replySent => ∃ h, s.port.handling = some h ∧ h.endsAt ≤ s.ticks
    | .startTimeoutExpiry => ∃ c, s.capture = some c ∧ c.state = .armed ∧ c.timeoutAt ≤ s.ticks
    | .endGapExpiry => ∃ c t, s.capture = some c ∧ c.state = .recording ∧ c.former = .space (some t)
        ∧ t + c.endGap * 8 ≤ s.ticks
    | .stuckMark => ∃ c start last fall, s.capture = some c ∧ c.state = .recording ∧ c.former = .mark start last fall
        ∧ start + 250000 * 8 ≤ s.ticks
    | .markEndTimeout => ∃ c start last fall, s.capture = some c ∧ c.isRunning ∧ c.source ≠ .capd
        ∧ c.former = .mark start last (some fall) ∧ last + 160 * 8 ≤ s.ticks
    | .initialSpaceRecognised => ∃ c t, s.capture = some c ∧ c.isRunning ∧ c.former = .initial (some t)
        ∧ t + 160 * 8 ≤ s.ticks
    | _ => False

/-! ### The laws -/

/-- R160: no source is in service twice, and the recorded priorities strictly decrease in claim order. -/
def InServiceLaw (s : State) : Prop :=
  s.notices.inService.Pairwise fun earlier later => later.priority < earlier.priority ∧ later.source ≠ earlier.source

/-- 1 while the zone has an active job. -/
def Zone.activeCount (z : Zone) : Nat := if z.active.isSome then 1 else 0

/-- R23, R25, R176: queues hold at most 8 jobs; completion records, with one more for an active job, are at most 4; the
request buffer holds at most 4 frames. -/
def CapacityLaw (s : State) : Prop :=
  (∀ z : Fin 8, (s.zone z).queue.length ≤ 8 ∧ (s.zone z).completions.length + (s.zone z).activeCount ≤ 4)
    ∧ s.port.buffer.length ≤ 4

/-- The live jobs of a zone: its active job and its queue. -/
def Zone.jobs (z : Zone) : List Job := (z.active.map ActiveJob.job).toList ++ z.queue

/-- R23: no two jobs among a zone's queue and its active job carry the same tag. -/
def TagLaw (s : State) : Prop := ∀ z : Fin 8, ((s.zone z).jobs.map Job.tag).Nodup

/-- The active job has not been granted: the zone is WAITING (R75). -/
def Zone.waits (z : Zone) : Prop := ∃ a, z.active = some a ∧ a.play = none

/-- The active job has been granted: the zone is in FRAME or INTERVAL (R75). -/
def Zone.plays (z : Zone) : Prop := ∃ a p, z.active = some a ∧ a.play = some p

/-- R50: the waiting list holds exactly the WAITING zones, each once. -/
def WaitingLaw (s : State) : Prop :=
  s.arbiter.waiting.Nodup ∧ ∀ z : Fin 8, z ∈ s.arbiter.waiting ↔ (s.zone z).waits

/-- R51: a group lock is held exactly by the zone of that group that is in FRAME or INTERVAL. -/
def LockLaw (s : State) : Prop :=
  ∀ (g : Fin 4) (z : Fin 8), s.arbiter.locks[g] = some z ↔ (s.zone z).config.group = some g ∧ (s.zone z).plays

/-- R65, R54: the bound zones of a generator are the zones in FRAME or INTERVAL whose job is bound to it, its count is
their number, and it is RUNNING, with a setting, exactly when the count is above zero; a WAITING job is not bound. -/
def PoolLaw (s : State) : Prop :=
  (∀ z : Fin 8, (s.zone z).waits → (s.zone z).binding = none) ∧
  ∀ g : Fin 4, (s.generator g).bound.Nodup ∧ (s.generator g).refCount = (s.generator g).bound.length
    ∧ (∀ z : Fin 8, z ∈ (s.generator g).bound ↔ (s.zone z).plays ∧ (s.zone z).binding = some g)
    ∧ ((s.generator g).wave.isSome ↔ 0 < (s.generator g).refCount)
    ∧ ((s.generator g).wave.isSome → (s.generator g).setting.isSome)

/-- Cells of the template of a slot, 0 when EMPTY (R6). -/
def Slot.cells (sl : Slot) : Nat := sl.template.elim 0 Template.cells

/-- R6: used cells are the sum of the cell counts of the installed templates, at most 1,536. -/
def CellLaw (s : State) : Prop :=
  s.library.usedCells = (s.library.slots.toList.map Slot.cells).sum ∧ s.library.usedCells ≤ 1536

/-- Claims on a template index: live jobs of every zone and bindings of every line (R7). -/
def State.claims (s : State) (i : Fin 64) : Nat :=
  (allZones.map fun z => ((s.zone z).jobs.filter fun j => decide (j.template = i)).length).sum
    + (allLines.filter fun n => decide ((s.line n).binding.map Binding.template = some i)).length

/-- R7: a use count is the number of claims on its template, and no claim names an absent template. -/
def UseCountLaw (s : State) : Prop :=
  ∀ i : Fin 64, (s.slot i).useCount = s.claims i ∧ (0 < s.claims i → (s.slot i).template.isSome)

/-- The envelope former is in a mark. -/
def Former.inMark : Former → Bool
  | .mark _ _ _ => true
  | _ => false

/-- R141, R147, R148: the list never holds more than the armed maximum, at most 512; it is shorter while the session runs,
and empty in ARMED, where the former has taken no mark. -/
def CaptureLaw (s : State) : Prop :=
  ∀ c, s.capture = some c → c.list.length ≤ c.maxEntries ∧ 2 ≤ c.maxEntries ∧ c.maxEntries ≤ 512
    ∧ (c.running = true → c.list.length < c.maxEntries) ∧ (c.state = .armed → c.list = [] ∧ c.former.inMark = false)

end Sys2Proof.Machine
end

