-- ==== Sys2Proof/Certificates/Slice0/Obligations.lean ====
section
/-!
DEFINITION. The statements for the provers. Where one says `exec c s = .next t`, the command completes, and `t` says
everything it leaves: what `t` does not name is as in `s`.
-/
section
open Sys2Proof Sys2Proof.Machine

/-! ### The queue, the tick, reset -/

/-- The command at the front of the queue is taken and run on the state with the queue's rest. -/
def Obligations.StepRunsFrontCommand : Prop :=
  ∀ (c : Instr) (rest : List Instr) (s : State), step { s with pending := c :: rest } = exec c { s with pending := rest }

/-- The model's choice (logs 2 and 4): with no command waiting the part's next event joins the queue, one of several by a
free value; with no event due one tick passes. The events due are those of the running timers whose deadline has come
(`DueNow`), and an edge of the loopback waveform that the running session on it has not taken (R146). -/
def Obligations.IdleStepTakesEventOrTick : Prop :=
  ∀ s : State, s.pending = [] →
    (∀ e, s.due = [e] → step s = .next { s with pending := [e] })
    ∧ (∀ e f rest, s.due = e :: f :: rest →
        ∃ g ∈ s.due, step s = .next { s with pending := [g], freeCount := s.freeCount + 1 })
    ∧ (∀ e, s.due = [] → s.loopbackEdge = some e → step s = .next { s with pending := [e] })
    ∧ (s.due = [] → s.loopbackEdge = none → step s = .next { s with ticks := s.ticks + 1 })
    ∧ (∀ e, e ∈ s.due ↔ DueNow s e)
    ∧ ∀ e, s.loopbackEdge = some e ↔ ∃ c z, s.capture = some c ∧ c.isRunning ∧ c.source = .loopback z
        ∧ (s.loopback z = true ∧ c.former.level = false ∧ e = .captureRisingEdge .loopback
          ∨ s.loopback z = false ∧ c.former.level = true ∧ e = .captureFallingEdge .loopback)

/-- What every block holds at reset release, whatever the pins and the cause (R20, R44, R46, R47, R60, R61, R74, R126,
R140, R155, R156, R170, R183). -/
def Obligations.ResetReleaseValues : Prop :=
  ∀ (pins : Pins) (cause : ResetCause) (n : Nat) (p : List Instr), ∃ s, State.released pins cause n p = s
    ∧ s.assertedReset = none ∧ s.timeBase = 0
    ∧ (∀ i : Fin 64, (s.slot i).template = none ∧ (s.slot i).useCount = 0)
    ∧ s.library.usedCells = 0 ∧ s.library.freeCells = 1536 ∧ s.library.staging = none
    ∧ (∀ z : Fin 8, (s.zone z).state = .idle ∧ (s.zone z).config.enabled = true
        ∧ (s.zone z).config.hostBands = ⟨true, true, true⟩ ∧ (s.zone z).config.group = none
        ∧ (s.zone z).config.dark = false ∧ (s.zone z).config.strap = (if pins.zclass[z] then .wired else .ir)
        ∧ (s.zone z).queue = [] ∧ (s.zone z).active = none ∧ (s.zone z).completions = []
        ∧ (∀ i : Fin 64, (s.zone z).toggles[i] = false) ∧ (s.zone z).condition = .normal
        ∧ (s.zone z).openSeen = false ∧ (s.zone z).overloadSeen = false
        ∧ s.zout z = false ∧ s.loopback z = false)
    ∧ s.arbiter.slotIndex = 0 ∧ s.arbiter.slotEnd = 1000 * 8 ∧ s.arbiter.activePlan.length = 20
    ∧ (∀ z : Fin 8, s.arbiter.activePlan.masks[z] = 0xFFFF#16) ∧ s.arbiter.stagedPlan = none
    ∧ s.arbiter.waiting = [] ∧ (∀ g : Fin 4, s.arbiter.locks[g] = none)
    ∧ (∀ g : Fin 4, (s.generator g).wave = none ∧ (s.generator g).setting = none ∧ (s.generator g).refCount = 0
        ∧ (s.generator g).bound = [])
    ∧ (∀ l : Fin 4, (s.line l).binding = none ∧ (s.line l).state = .unbound ∧ (s.line l).taken = pins.trig[l]
        ∧ (s.line l).debounceEnd = none)
    ∧ s.capture = none
    ∧ (∀ m : Source, (s.setting m).masked = false)
    ∧ (s.setting .engine).priority = 0 ∧ (s.setting .fault).priority = 1 ∧ (s.setting .link).priority = 2
    ∧ (s.setting .capture).priority = 4 ∧ (s.setting .trigger).priority = 5
    ∧ (∀ z : Fin 8, (s.setting (.zone z)).priority = 6)
    ∧ s.notices.threshold = 8 ∧ s.notices.inService = [] ∧ s.notices.engineLatch = some cause
    ∧ s.notices.faultLatch = [] ∧ s.notices.linkLatch = ⟨false, false, false, false⟩ ∧ s.notices.captureLatch = none
    ∧ (∀ l : Fin 4, s.notices.triggerLatch[l] = none) ∧ s.pick = some .engine ∧ s.attn = true
    ∧ s.port.assembler = .hunting ∧ s.port.gapEnd = none ∧ s.port.buffer = [] ∧ s.port.handling = none
    ∧ s.port.baud = pins.baud

/-- The laws that the steps keep hold at the state right after reset. -/
def Obligations.LawsHoldAtReset : Prop :=
  InServiceLaw State.reset ∧ CapacityLaw State.reset ∧ TagLaw State.reset ∧ WaitingLaw State.reset
    ∧ LockLaw State.reset ∧ PoolLaw State.reset ∧ CellLaw State.reset ∧ UseCountLaw State.reset ∧ CaptureLaw State.reset

/-- While reset is asserted bytes and frames are not received, and ATTN and TXD are high (R181). The model's: a request row
is then no change (log 22), and RECEIVE_BYTE moves only what RXD shows of a character (log 13). -/
def Obligations.NothingReceivedInReset : Prop :=
  ∀ (s : State) (cause : ResetCause), s.assertedReset = some cause →
    (∀ c q r, requestOf c = some (q, r) → exec c s = .next s)
    ∧ (∀ b, exec (.receiveByte b .starts) s = .next { s with pins := { s.pins with rxdBusy := true } })
    ∧ (∀ b, exec (.receiveByte b .ends) s =
        .next { s with pins := { s.pins with rxdBusy := false }, port := { s.port with deaf := false } })
    ∧ s.attn = false ∧ s.txd = true

/-- SUPPLY_RISE, RESET_N_LOW and SUPPLY_FAILURE: when each begins a reset, of which cause, and that every block is then
reset and silent (R181, R182). The model's: what the failure does at once (log 12), that the sampled straps stay until
release (log 22), and that a supply or RESET_N row that changes no level, or RESET_N falling while the supply is not
stable, begins no reset (log 29). -/
def Obligations.ResetBegins : Prop :=
  ∀ s : State,
    (s.supply = .below → ∃ t, exec .supplyRise s = .next t ∧ InReset s t .power ∧ t.supply = .rising ∧ t.pins = s.pins
      ∧ t.pending = s.pending ∧ t.freeCount = s.freeCount ∧ t.port.baud = s.port.baud)
    ∧ (s.supply ≠ .below → exec .supplyRise s = .next s)
    ∧ (s.supply = .stable → s.pins.resetN = true → ∃ t, exec .resetNLow s = .next t ∧ InReset s t .pin
      ∧ t.supply = s.supply ∧ t.pins = { s.pins with resetN := false } ∧ t.pending = s.pending
      ∧ t.freeCount = s.freeCount ∧ t.port.baud = s.port.baud)
    ∧ (s.supply ≠ .stable ∨ s.pins.resetN = false →
      exec .resetNLow s = .next { s with pins := { s.pins with resetN := false } })
    ∧ (s.supply ≠ .below → ∃ t, exec .supplyFailure s = .next t ∧ InReset s t .power ∧ t.supply = .below
      ∧ t.pins = s.pins ∧ t.pending = s.pending ∧ t.freeCount = s.freeCount ∧ t.port.baud = s.port.baud)
    ∧ (s.supply = .below → exec .supplyFailure s = .next s)

/-- RESET_N_HIGH, SUPPLY_STABLE and REQUEST_RESET_EXPIRY: when each releases the reset, and that the part then stands as
`ResetReleaseValues` says, with the cause of the reset it was released from (R181). The model's: a row whose level or timer
does not stand so changes nothing but the level it names (logs 3 and 29), and RESET_N high releases a PIN reset that
extended a REQUEST reset whose 50 µs still run (log 34). -/
def Obligations.ResetReleases : Prop :=
  ∀ (s : State) (cause : ResetCause), s.assertedReset = some cause →
    (s.supply = .stable → s.pins.resetN = false →
      exec .resetNHigh s = .next (State.released { s.pins with resetN := true } cause s.freeCount s.pending))
    ∧ (s.supply ≠ .stable ∨ s.pins.resetN = true →
      exec .resetNHigh s = .next { s with pins := { s.pins with resetN := true } })
    ∧ (s.supply = .rising → s.pins.resetN = true →
      exec .supplyStable s = .next (State.released s.pins cause s.freeCount s.pending))
    ∧ (s.supply = .rising → s.pins.resetN = false → exec .supplyStable s = .next { s with supply := .stable })
    ∧ (s.supply ≠ .rising → exec .supplyStable s = .next s)
    ∧ (cause = .request →
      exec .requestResetExpiry s = .next { State.released s.pins .request s.freeCount s.pending with supply := s.supply })
    ∧ (cause ≠ .request → exec .requestResetExpiry s = .next s)

/-- ENGINE RESET is answered OK with no fields; when its reply has been sent a REQUEST reset begins (R182). -/
def Obligations.EngineResetRequest : Prop :=
  (∀ (q : Byte) (s : State), s.ready → exec (.engineReset q) s = .next (s.replying 0x02#8 q .ok .none))
    ∧ ∀ (s : State) (h : Handling), s.port.handling = some h → h.code = 0x02#8 → h.reply.status = .ok →
      ∃ t, exec .replySent s = .next t ∧ InReset s t .request ∧ t.pins = s.pins ∧ t.supply = s.supply
        ∧ t.pending = s.pending ∧ t.freeCount = s.freeCount ∧ t.port.baud = s.port.baud

/-! ### The Message Port -/

/-- A request command that the free port takes is answered by a reply frame of the form of Tables 11-1 and 11-2, which
lasts as long as its bytes take at the rate in force, up to one tick more (R171, R172, R177; log 8 for the tick). Where
every part of the reply has stated bytes the fields are those (log 7 for their order); a TEMPLATE QUERY reply opens with
the header record of Table 11-3. A list operand of a wrong length is answered BAD_LENGTH (R178; log 9). TXD carries the
frame bit by bit, and is high at rest (R171). -/
def Obligations.RequestIsAnsweredByFrame : Prop :=
  (∀ (c : Instr) (q : Byte) (r : Request) (s : State), requestOf c = some (q, r) → c.wellFormed = true → s.ready →
    ∃ t h fields, exec c s = .next t ∧ t.port = { s.port with handling := some h } ∧ h.code = requestCode r
      ∧ h.reply.code = requestCode r + 0x80#8 ∧ h.reply.seq = q
      ∧ h.frame = [0xC3#8, BitVec.ofNat 8 (3 + fields.length), requestCode r + 0x80#8, q, statusByte h.reply.status] ++ fields
          ++ [highByte (crcOf (h.frame.tail.take (4 + fields.length))), lowByte (crcOf (h.frame.tail.take (4 + fields.length)))]
      ∧ 3 + fields.length ≤ 64 ∧ t.ticks = s.ticks ∧ h.startsAt = s.ticks
      ∧ (∀ b, statedBytes h.reply.fields = some b → fields = b)
      ∧ (∀ x, h.reply.fields = .templateQuery x → headerBytes x.header <+: fields)
      ∧ (s.port.baud = false → (h.frame.length * 10) * 625 ≤ (h.endsAt - t.ticks) * 9
          ∧ (h.endsAt - t.ticks) * 9 < (h.frame.length * 10) * 625 + 9)
      ∧ (s.port.baud = true → (h.frame.length * 10) * 625 ≤ (h.endsAt - t.ticks) * 36
          ∧ (h.endsAt - t.ticks) * 36 < (h.frame.length * 10) * 625 + 36))
  ∧ (∀ (c : Instr) (q : Byte) (r : Request) (s : State), requestOf c = some (q, r) → c.wellFormed = false → s.ready →
      exec c s = .next (s.replying (requestCode r) q .badLength .none))
  ∧ ∀ s : State, (s.port.handling = none → s.txd = true)
    ∧ ∀ h bits per, s.assertedReset = none → s.port.handling = some h → per = (if s.port.baud = true then 36 else 9) →
      bits * 625 ≤ (s.ticks - h.startsAt) * per → (s.ticks - h.startsAt) * per < (bits + 1) * 625 →
      (h.frame.length * 10 ≤ bits → s.txd = true)
      ∧ ∀ k j b, bits = k * 10 + j → j < 10 → h.frame[k]? = some b →
        s.txd = if j = 0 then false else if j = 9 then true else b.getLsbD (j - 1)

/-- A request that arrives while another is in handling joins the buffer, or is discarded with cause OVERRUN when the
buffer holds four frames (R175, R176). -/
def Obligations.BusyPortBuffersRequest : Prop :=
  ∀ (c : Instr) (q : Byte) (r : Request) (s : State) (h : Handling),
    requestOf c = some (q, r) → s.assertedReset = none → s.port.handling = some h →
    (s.port.buffer.length < 4 →
      exec c s = .next { s with port := { s.port with buffer := s.port.buffer ++ [requestBody q r] } })
    ∧ (4 ≤ s.port.buffer.length →
      exec c s = .next { s with notices := { s.notices with linkLatch := { s.notices.linkLatch with overrun := true } } })

/-- The frame assembler, state by state (R173 to R176): what each received byte does, that a complete frame is the request
command or is refused UNKNOWN or BAD_LENGTH (R178), that it waits or is lost while another is in handling, and that
GAP_TIMER_EXPIRY discards a frame being assembled, with cause TRUNCATED, when no start bit has come (R174). A byte whose
start bit began before release is not received (R183). The model's: the start bit as a form of the row RECEIVE_BYTE and the
character in progress (log 13), the gap's expiry at the later of now and its deadline, and no change when the timer is
stopped or a start bit has come (log 3). -/
def Obligations.AssemblerTakesByteOrTimesOut : Prop :=
  (∀ s : State,
    (∀ b, exec (.receiveByte b .starts) s = .next { s with pins := { s.pins with rxdBusy := true } })
    ∧ (∀ d, s.port.gapEnd = some d → s.pins.rxdBusy = false → exec .gapTimerExpiry s =
      .next { s with ticks := max s.ticks d, port := { s.port with assembler := .hunting, gapEnd := none }
                     notices := { s.notices with linkLatch := { s.notices.linkLatch with truncated := true } } })
    ∧ (s.port.gapEnd = none ∨ s.pins.rxdBusy = true → exec .gapTimerExpiry s = .next s)
    ∧ (∀ b, s.port.deaf = true → exec (.receiveByte b .ends) s =
      .next { s with pins := { s.pins with rxdBusy := false }, port := { s.port with deaf := false } }))
  ∧ (∀ pins cause n p, (State.released pins cause n p).port.deaf = pins.rxdBusy)
  ∧ ∀ (b : Byte) (s : State), s.assertedReset = none → s.port.deaf = false → ∃ p, { s.pins with rxdBusy := false } = p ∧
    (s.port.assembler = .hunting → b = 0xC3#8 → exec (.receiveByte b .ends) s =
      .next { s with pins := p, port := { s.port with assembler := .length, gapEnd := some (s.ticks + 2000 * 8) } })
    ∧ (s.port.assembler = .hunting → b ≠ 0xC3#8 → exec (.receiveByte b .ends) s =
      .next { s with pins := p, port := { s.port with gapEnd := none } })
    ∧ (s.port.assembler = .length → 2 ≤ b.toNat → b.toNat ≤ 64 → exec (.receiveByte b .ends) s =
      .next { s with pins := p, port := { s.port with assembler := .body, length := b.toNat, body := []
                                                      check := crcOf [b], gapEnd := some (s.ticks + 2000 * 8) } })
    ∧ (s.port.assembler = .length → b.toNat < 2 ∨ 64 < b.toNat → exec (.receiveByte b .ends) s =
      .next { s with pins := p, port := { s.port with assembler := .hunting, gapEnd := none }
                     notices := { s.notices with linkLatch := { s.notices.linkLatch with length := true } } })
    ∧ (s.port.assembler = .body → exec (.receiveByte b .ends) s =
      .next { s with pins := p, port := { s.port with
        body := s.port.body ++ [b], check := crcByte s.port.check b, gapEnd := some (s.ticks + 2000 * 8)
        assembler := if (s.port.body ++ [b]).length < s.port.length then .body else .checkHigh } })
    ∧ (s.port.assembler = .checkHigh → exec (.receiveByte b .ends) s =
      .next { s with pins := p, port := { s.port with assembler := .checkLow, checkHigh := b
                                                      gapEnd := some (s.ticks + 2000 * 8) } })
    ∧ (s.port.assembler = .checkLow → s.port.checkHigh ++ b ≠ s.port.check → exec (.receiveByte b .ends) s =
      .next { s with pins := p, port := { s.port with assembler := .hunting, gapEnd := none }
                     notices := { s.notices with linkLatch := { s.notices.linkLatch with check := true } } })
    ∧ (s.port.assembler = .checkLow → s.port.checkHigh ++ b = s.port.check → ∃ t : State,
        t = { s with pins := p, port := { s.port with assembler := .hunting, gapEnd := none } } ∧
        (∀ c q r, requestOf c = some (q, r) → c.wellFormed = true → s.port.body = requestBody q r →
          exec (.receiveByte b .ends) s = exec c t)
        ∧ (∀ h, s.port.handling = some h →
          (s.port.buffer.length < 4 → exec (.receiveByte b .ends) s =
            .next { t with port := { t.port with buffer := s.port.buffer ++ [s.port.body] } })
          ∧ (4 ≤ s.port.buffer.length → exec (.receiveByte b .ends) s =
            .next { t with notices := { s.notices with linkLatch := { s.notices.linkLatch with overrun := true } } }))
        ∧ (∀ code q f status, s.port.handling = none → s.port.buffer = [] → s.port.body = code :: q :: f →
          UnreadBody code f status → exec (.receiveByte b .ends) s =
            .next (t.startReply code { code := if code.toNat < 128 then code + 0x80#8 else code, seq := q
                                       status := status, fields := .none })))

/-- REPLY_SENT: the request leaves handling, and the head of the buffer is taken in the same event: handed to its owner,
or refused by the port with UNKNOWN for a code that no request has, or with BAD_LENGTH for a body that no request of its
code has (R177, R178). The model's: the event at the later of now and the reply's end (log 3), and no change with no reply
being sent (log 3). -/
def Obligations.ReplySentTakesNextRequest : Prop :=
  (∀ s : State, s.port.handling = none → exec .replySent s = .next s) ∧
  ∀ (s : State) (h : Handling), s.port.handling = some h → ¬ (h.code = 0x02#8 ∧ h.reply.status = .ok) →
    ∃ now, now = max s.ticks h.endsAt ∧
    (s.port.buffer = [] → exec .replySent s = .next { s with ticks := now, port := { s.port with handling := none } })
    ∧ (∀ q r rest, r.lengthOk = true → s.port.buffer = requestBody q r :: rest → ∃ t,
        t = { s with ticks := now, port := { s.port with handling := none, buffer := rest } }
        ∧ exec .replySent s = .next ((answer r t).state.replying (requestCode r) q (answer r t).status (answer r t).fields))
    ∧ (∀ code q f rest status, UnreadBody code f status → s.port.buffer = (code :: q :: f) :: rest → ∃ t,
        t = { s with ticks := now, port := { s.port with handling := none, buffer := rest } }
        ∧ exec .replySent s =
            .next (t.startReply code { code := if code.toNat < 128 then code + 0x80#8 else code, seq := q
                                       status := status, fields := .none }))

/-- Every request that can be written as a frame is read back from its field bytes as it was, with every
operand at every value, and its body fits a frame (R172, R178). -/
def Obligations.RequestBodyReadsBack : Prop :=
  ∀ (q : Byte) (r : Request), r.lengthOk = true →
    parseFields (requestCode r) (requestFields r) = .request r
    ∧ 2 ≤ (requestBody q r).length ∧ (requestBody q r).length ≤ 64

/-- A refused request changes no state (R179). -/
def Obligations.RefusalChangesNothing : Prop :=
  ∀ (r : Request) (s : State), (answer r s).status ≠ .ok → (answer r s).state = s

/-! ### The Code Library -/

/-- TEMPLATE BEGIN (R10). -/
def Obligations.TemplateBeginOpensStaging : Prop :=
  ∀ (q : Byte) (h : TemplateHeader) (s : State), s.ready →
    (∀ index : Byte, 64 ≤ index.toNat ∨ ¬ HeaderDefined h →
      exec (.templateBegin q index h) s = .next (s.replying 0x10#8 q .badField .none))
    ∧ (∀ i : Fin 64, HeaderDefined h → exec (.templateBegin q (byteOf i) h) s =
      .next ({ s with library := { s.library with staging := some { target := i, header := h, main := [], rep := [] } } }.replying
        0x10#8 q .ok (.templateBegin (s.library.staging.map Staging.target) (s.slot i).template.isSome (s.slot i).useCount)))

/-- TEMPLATE APPEND (R11): its checks in order, and that all the elements or none join the selected list. -/
def Obligations.TemplateAppendAddsAllOrNone : Prop :=
  ∀ (q sel : Byte) (es : List ElementRecord) (s : State), s.ready → 1 ≤ es.length → es.length ≤ 12 →
    (s.library.staging = none → exec (.templateAppend q sel es) s = .next (s.replying 0x11#8 q .badState .none))
    ∧ (s.library.staging ≠ none → 2 ≤ sel.toNat ∨ (∃ e ∈ es, ∀ x, ¬ ElementRead e x) →
      exec (.templateAppend q sel es) s = .next (s.replying 0x11#8 q .badField .none))
    ∧ (∀ st name xs, s.library.staging = some st → sel = selectorOf name → List.Forall₂ ElementRead es xs →
        listCapacity name < (st.template.elements name).length + xs.length →
        exec (.templateAppend q sel es) s = .next (s.replying 0x11#8 q .badField .none))
    ∧ (∀ st xs, s.library.staging = some st → sel = 0x00#8 → List.Forall₂ ElementRead es xs →
        st.rep.length ≤ 16 → st.main.length + xs.length ≤ 48 → exec (.templateAppend q sel es) s =
        .next ({ s with library := { s.library with staging := some { st with main := st.main ++ xs } } }.replying
          0x11#8 q .ok (.templateAppend (st.main.length + xs.length) st.rep.length)))
    ∧ (∀ st xs, s.library.staging = some st → sel = 0x01#8 → List.Forall₂ ElementRead es xs →
        st.main.length ≤ 48 → st.rep.length + xs.length ≤ 16 → exec (.templateAppend q sel es) s =
        .next ({ s with library := { s.library with staging := some { st with rep := st.rep ++ xs } } }.replying
          0x11#8 q .ok (.templateAppend st.main.length (st.rep.length + xs.length))))

/-- Validation finds no reason exactly when the staged contents pass the seven checks of R14, and otherwise the reason of the
first check that fails, with its list and position. -/
def Obligations.ValidationPassesValidStaging : Prop :=
  ∀ st : Staging, (validate st = none ↔ ValidStaging st)
    ∧ ∀ reason, validate st = some reason ↔
        FailsCheck st reason ∧ ∀ other, FailsCheck st other → checkRank reason ≤ checkRank other

/-- TEMPLATE COMMIT (R13, R15, R16): its four checks in order, and what a commit that passes installs. -/
def Obligations.TemplateCommitChecksAndInstalls : Prop :=
  ∀ (q : Byte) (s : State), s.ready →
    (s.library.staging = none → exec (.templateCommit q) s = .next (s.replying 0x12#8 q .badState .none))
    ∧ ∀ st, s.library.staging = some st → ∃ old free n,
      old = (s.slot st.target).cells ∧ free = 1536 - s.library.usedCells ∧ n = st.main.length + st.rep.length ∧
      (∀ reason, validate st = some reason →
        exec (.templateCommit q) s = .next (s.replying 0x12#8 q .invalidTemplate (.invalidTemplate reason)))
      ∧ (ValidStaging st → (s.slot st.target).useCount ≠ 0 → exec (.templateCommit q) s =
          .next (s.replying 0x12#8 q .inUse (.inUse (s.slot st.target).useCount)))
      ∧ (ValidStaging st → (s.slot st.target).useCount = 0 → free + old < n → exec (.templateCommit q) s =
          .next (s.replying 0x12#8 q .noSpace (.noSpace (n - old) free)))
      ∧ (ValidStaging st → (s.slot st.target).useCount = 0 → n ≤ free + old → exec (.templateCommit q) s =
          .next ({ s with
            library := { slots := s.library.slots.set st.target { template := some st.template, useCount := 0 }
                         usedCells := s.library.usedCells + n - old, staging := none }
            zones := mapVector (fun zn : Zone => { zn with toggles := zn.toggles.set st.target false }) s.zones }.replying
              0x12#8 q .ok (.templateCommit st.target (s.slot st.target).template.isSome n (dataBits st.main)
                (bandOf st.header) (s.library.usedCells + n - old) (1536 - (s.library.usedCells + n - old)))))

/-- TEMPLATE ABANDON (R12): staging closes and nothing else changes but the port; in CLOSED the reply is ALREADY. -/
def Obligations.TemplateAbandonClosesStaging : Prop :=
  ∀ (q : Byte) (s : State), s.ready →
    (s.library.staging ≠ none → exec (.templateAbandon q) s =
      .next ({ s with library := { s.library with staging := none } }.replying 0x13#8 q .ok .none))
    ∧ (s.library.staging = none → exec (.templateAbandon q) s = .next (s.replying 0x13#8 q .already .none))

/-- TEMPLATE DELETE (R17, R16): its checks in order, and what a delete changes. -/
def Obligations.TemplateDeleteEmptiesSlot : Prop :=
  ∀ (q : Byte) (s : State), s.ready →
    (∀ index : Byte, 64 ≤ index.toNat →
      exec (.templateDelete q index) s = .next (s.replying 0x14#8 q .badField .none))
    ∧ ∀ i : Fin 64,
      ((s.slot i).template = none →
        exec (.templateDelete q (byteOf i)) s = .next (s.replying 0x14#8 q .noTemplate .none))
      ∧ ((s.slot i).template ≠ none → (s.slot i).useCount ≠ 0 → exec (.templateDelete q (byteOf i)) s =
        .next (s.replying 0x14#8 q .inUse (.inUse (s.slot i).useCount)))
      ∧ (∀ t, (s.slot i).template = some t → (s.slot i).useCount = 0 → ∃ n used, n = t.main.length + t.rep.length
        ∧ used = s.library.usedCells - n ∧ exec (.templateDelete q (byteOf i)) s =
          .next ({ s with
            library := { s.library with slots := s.library.slots.set i { template := none, useCount := 0 }, usedCells := used }
            zones := mapVector (fun zn : Zone => { zn with toggles := zn.toggles.set i false }) s.zones }.replying
              0x14#8 q .ok (.templateDelete n used (1536 - used))))

/-- TEMPLATE QUERY and LIBRARY QUERY change nothing but the port, and report what R18 and R19 list; an element is returned as
the record of its kind with the field that the kind does not use as 0. -/
def Obligations.LibraryQueriesReport : Prop :=
  ((∀ d, (Element.mark d).record = ⟨0x01, 0, BitVec.ofNat 16 d⟩) ∧ (∀ d, (Element.space d).record = ⟨0x02, 0, BitVec.ofNat 16 d⟩)
    ∧ (∀ c, (Element.dataNext c).record = ⟨0x03, BitVec.ofNat 8 c, 0⟩)
    ∧ (∀ c, (Element.dataEcho c).record = ⟨0x04, BitVec.ofNat 8 c, 0⟩) ∧ Element.toggle.record = ⟨0x05, 0, 0⟩)
  ∧ ∀ (q : Byte) (s : State), s.ready →
    (∀ index offset : Byte, 64 ≤ index.toNat →
      exec (.templateQuery q index offset) s = .next (s.replying 0x15#8 q .badField .none))
    ∧ (∀ (i : Fin 64) (offset : Byte), (s.slot i).template = none →
      exec (.templateQuery q (byteOf i) offset) s = .next (s.replying 0x15#8 q .noTemplate .none))
    ∧ (∀ (i : Fin 64) (offset : Byte) t, (s.slot i).template = some t → (t.main ++ t.rep).length ≤ offset.toNat →
      exec (.templateQuery q (byteOf i) offset) s = .next (s.replying 0x15#8 q .badField .none))
    ∧ (∀ (i : Fin 64) (offset : Byte) t, (s.slot i).template = some t → offset.toNat < (t.main ++ t.rep).length →
      exec (.templateQuery q (byteOf i) offset) s = .next (s.replying 0x15#8 q .ok (.templateQuery
        { header := t.header, band := bandOf t.header, dataBits := dataBits t.main, repeatData := dataBits t.rep
          toggled := decide (Element.toggle ∈ t.main ++ t.rep), mainCount := t.main.length, repeatCount := t.rep.length
          useCount := (s.slot i).useCount, offset := offset.toNat
          elements := (((t.main ++ t.rep).drop offset.toNat).take 6).map Element.record })))
    ∧ ∃ report, exec (.libraryQuery q) s = .next (s.replying 0x16#8 q .ok (.libraryQuery report))
      ∧ report.used = s.library.usedCells ∧ report.free = 1536 - s.library.usedCells
      ∧ (∀ i : Fin 64, report.installed[i] = (s.slot i).template.isSome)
      ∧ report.count = (report.installed.toList.filter id).length
      ∧ report.staging = s.library.staging.map fun st => (st.target, st.main.length, st.rep.length)

/-! ### Zones, jobs and completions -/

/-- ZONE SETUP (R29): its three checks in order, and that the present fields are applied together. That a band set byte of
08h to FEh holds no defined value is the model's reading (log 18). -/
def Obligations.ZoneSetupAppliesTogether : Prop :=
  ∀ (q enabled bands group dark : Byte) (s : State), s.ready →
    (∀ zone : Byte, 8 ≤ zone.toNat ∨ ¬ SetupDefined enabled bands group dark →
      exec (.zoneSetup q zone enabled bands group dark) s = .next (s.replying 0x20#8 q .badField .none))
    ∧ ∀ z : Fin 8, SetupDefined enabled bands group dark → ∃ c c', c = (s.zone z).config
      ∧ c' = configAfter c enabled bands group dark ∧
      (c.enabled = true ∧ c'.enabled = false ∧ ((s.zone z).active ≠ none ∨ (s.zone z).queue ≠ [])
          ∨ (c'.group ≠ c.group ∨ c'.dark ≠ c.dark) ∧ (s.zone z).active ≠ none →
        exec (.zoneSetup q (byteOf z) enabled bands group dark) s =
          .next (s.replying 0x20#8 q .busy (.zoneBusy (s.zone z).state (s.zone z).queue.length)))
      ∧ ((c.enabled = true → c'.enabled = false → (s.zone z).active = none ∧ (s.zone z).queue = []) →
          ((c'.group ≠ c.group ∨ c'.dark ≠ c.dark) → (s.zone z).active = none) →
        exec (.zoneSetup q (byteOf z) enabled bands group dark) s =
          .next ({ s with zones := s.zones.set z { s.zone z with config := c' } }.replying 0x20#8 q .ok
            (.zoneSetup c' c'.effective { s.zone z with config := c' }.state)))

/-- ZONE QUERY (R42, R43): the report, and that only the latched flags it carries are cleared. The state is the one of R31
that the zone's records give, the effective bands are those of R28, and a template's band is that of its widths (R2). -/
def Obligations.ZoneQueryClearsLatchedFlags : Prop :=
  (∀ h : TemplateHeader, bandOf h = headerBand h)
  ∧ (∀ b : BandSet, b.has .baseband = b.baseband ∧ b.has .lf = b.lf ∧ b.has .hf = b.hf)
  ∧ (∀ c : ZoneConfig, c.effective =
      { baseband := c.hostBands.baseband && decide (c.strap = .wired), lf := c.hostBands.lf
        hf := c.hostBands.hf && decide (c.strap = .ir) })
  ∧ (∀ (zn : Zone) (st : ZoneState), zn.state = st ↔ StateHolds zn st)
  ∧ ∀ (q : Byte) (s : State), s.ready →
    (∀ zone : Byte, 8 ≤ zone.toNat → exec (.zoneQuery q zone) s = .next (s.replying 0x21#8 q .badField .none))
    ∧ ∀ z : Fin 8, ∃ report, exec (.zoneQuery q (byteOf z)) s =
        .next ({ s with zones := s.zones.set z { s.zone z with openSeen := false, overloadSeen := false } }.replying
          0x21#8 q .ok (.zoneQuery report))
      ∧ report.state = (s.zone z).state ∧ report.config = (s.zone z).config
      ∧ report.effective = (s.zone z).config.effective
      ∧ report.tags = (s.zone z).queue.map Job.tag ∧ (report.active.isSome ↔ (s.zone z).active.isSome)
      ∧ (∀ a r, (s.zone z).active = some a → report.active = some r → r.tag = a.job.tag ∧ r.template = a.job.template
          ∧ r.hold = a.job.mode.isHold ∧ r.origin = a.job.origin ∧ r.framesStarted = a.framesStarted
          ∧ r.framesTarget = a.framesTarget ∧ r.released = a.job.released ∧ r.cancelAfterFrame = a.cancelAfterFrame
          ∧ r.list = a.play.map PlayState.list ∧ r.frameNumber = a.play.map PlayState.frameNumber
          ∧ r.binding = a.binding)
      ∧ report.completions = (s.zone z).completions.length ∧ report.condition = (s.zone z).condition
      ∧ report.openSeen = (s.zone z).openSeen ∧ report.overloadSeen = (s.zone z).overloadSeen
      ∧ report.toggles = (s.zone z).toggles

/-- JOB SUBMIT (R33, R34): the eight checks in order, the job an accepted request makes, its claim on the template, and
that the activation condition is then tested (`ActivationTakesHead`). -/
def Obligations.JobSubmitChecksInOrder : Prop :=
  ∀ (q : Byte) (r : JobSubmitRecord) (s : State), s.ready → (Request.jobSubmit r).lengthOk = true →
    (8 ≤ r.zone.toNat ∨ 64 ≤ r.template.toNat ∨ (∀ m, ¬ ModeRead r m) ∨ 64 < r.payloadLength.toNat →
      exec (.jobSubmit q r) s = .next (s.replying 0x28#8 q .badField .none))
    ∧ ∀ (z : Fin 8) (i : Fin 64) (m : JobMode), r.zone = byteOf z → r.template = byteOf i → ModeRead r m →
      r.payloadLength.toNat ≤ 64 → ∃ zn, zn = s.zone z ∧
      (OverrideOutside s i m → exec (.jobSubmit q r) s = .next (s.replying 0x28#8 q .badField .none))
      ∧ (¬ OverrideOutside s i m →
        (zn.config.enabled = false → exec (.jobSubmit q r) s = .next (s.replying 0x28#8 q .zoneDisabled .none))
        ∧ (zn.config.enabled = true →
          (zn.quietEnd.isSome → exec (.jobSubmit q r) s = .next (s.replying 0x28#8 q .busy .none))
          ∧ (zn.quietEnd = none →
            ((s.slot i).template = none → exec (.jobSubmit q r) s = .next (s.replying 0x28#8 q .noTemplate .none))
            ∧ ∀ t, (s.slot i).template = some t →
              (r.payloadLength.toNat ≠ dataBits t.main →
                exec (.jobSubmit q r) s = .next (s.replying 0x28#8 q .badPayload .none))
              ∧ (r.payloadLength.toNat = dataBits t.main →
                (zn.config.effective.has (bandOf t.header) = false →
                  exec (.jobSubmit q r) s = .next (s.replying 0x28#8 q .incompatible .none))
                ∧ (zn.config.effective.has (bandOf t.header) = true →
                  ((∃ j ∈ zn.jobs, j.tag = r.tag) →
                    exec (.jobSubmit q r) s = .next (s.replying 0x28#8 q .duplicateTag .none))
                  ∧ ((∀ j ∈ zn.jobs, j.tag ≠ r.tag) →
                    (8 ≤ zn.queue.length → exec (.jobSubmit q r) s = .next (s.replying 0x28#8 q .queueFull .none))
                    ∧ (zn.queue.length < 8 → ∃ j s1,
                      j = Job.mk r.tag i m (payloadBits r.payloadLength.toNat r.payload) .host false
                      ∧ s1 = { s with
                          zones := s.zones.set z { zn with queue := zn.queue ++ [j] }
                          library := { s.library with slots := s.library.slots.set i (Slot.mk (s.slot i).template ((s.slot i).useCount + 1)) } }
                      ∧ exec (.jobSubmit q r) s = .next ((s1.considerActivation z).replying 0x28#8 q .ok
                          (.jobSubmit z r.tag (zn.queue.length + 1) ((s1.considerActivation z).zone z).state)))))))))

/-- Activation (R35 to R39): while the condition holds the head job leaves the queue; with its band effective it becomes
the active job, the toggle bit of a toggled template flips and the zone joins the waiting list; otherwise it ends
INCOMPATIBLE and the condition is tested again. Where the condition fails nothing changes. -/
def Obligations.ActivationTakesHead : Prop :=
  ∀ (z : Fin 8) (s : State), ∃ zn, zn = s.zone z ∧
    (¬ (zn.config.enabled = true ∧ zn.active = none ∧ zn.condition = .normal ∧ zn.quietEnd = none ∧ zn.queue ≠ []
        ∧ zn.completions.length < 4) → s.considerActivation z = s)
    ∧ ∀ j rest, zn.config.enabled = true → zn.active = none → zn.condition = .normal → zn.quietEnd = none →
      zn.queue = j :: rest → zn.completions.length < 4 → ∃ t, t = s.template j.template ∧
      (zn.config.effective.has (bandOf t.header) = true → s.considerActivation z =
        { s with
          zones := s.zones.set z { zn with
            queue := rest
            toggles := if Element.toggle ∈ t.main ++ t.rep then zn.toggles.set j.template (!zn.toggles[j.template])
              else zn.toggles
            active := some { job := j, framesStarted := 0, cancelAfterFrame := false, firstFrameStart := none
                             binding := none, play := none
                             framesTarget := match j.mode with
                               | .tap n => 1 + n
                               | .hold none => t.header.holdLimit.toNat
                               | .hold (some o) => o } }
          arbiter := { s.arbiter with waiting := s.arbiter.waiting ++ [z] } })
      ∧ (zn.config.effective.has (bandOf t.header) = false → ∃ s1, s1 =
          { s with
            zones := s.zones.set z { zn with
              queue := rest
              completions := zn.completions ++
                [Completion.mk j.tag j.template j.origin j.mode.isHold .incompatible 0 none s.timeBase] }
            library := { s.library with slots := s.library.slots.set j.template (Slot.mk (s.slot j.template).template ((s.slot j.template).useCount - 1)) } }
          ∧ s.considerActivation z = s1.considerActivation z)

/-- COMPLETION TAKE (R40): the head record leaves and is returned with the number left, and the activation condition is
tested. -/
def Obligations.CompletionTakeReturnsHead : Prop :=
  ∀ (q : Byte) (s : State), s.ready →
    (∀ zone : Byte, 8 ≤ zone.toNat → exec (.completionTake q zone) s = .next (s.replying 0x2C#8 q .badField .none))
    ∧ ∀ z : Fin 8,
      ((s.zone z).completions = [] →
        exec (.completionTake q (byteOf z)) s = .next (s.replying 0x2C#8 q .nothingPending .none))
      ∧ (∀ record rest, (s.zone z).completions = record :: rest → ∃ s1,
        s1 = { s with zones := s.zones.set z { s.zone z with completions := rest } }.considerActivation z
        ∧ exec (.completionTake q (byteOf z)) s =
          .next (s1.replying 0x2C#8 q .ok (.completion record rest.length (s1.zone z).state)))

/-- The end of an active job with an outcome (R26, R50, R51, R55, R70, R7): the record, and all that is given back. -/
def Obligations.EndedJobGivesEverythingBack : Prop :=
  ∀ (z : Fin 8) (a : ActiveJob) (outcome : JobOutcome) (time : Word) (s : State), (s.zone z).active = some a →
    ∃ t, t = s.endJob z outcome time
    ∧ t = { s with zones := t.zones, arbiter := t.arbiter, generators := t.generators, library := t.library }
    ∧ t.zones = s.zones.set z { s.zone z with
        active := none
        completions := (s.zone z).completions ++ [Completion.mk a.job.tag a.job.template a.job.origin a.job.mode.isHold
          outcome a.framesStarted a.firstFrameStart time] }
    ∧ t.arbiter = { s.arbiter with waiting := t.arbiter.waiting, locks := t.arbiter.locks }
    ∧ t.arbiter.waiting = s.arbiter.waiting.filter (fun w => decide (w ≠ z))
    ∧ (∀ g : Fin 4, t.arbiter.locks[g] = if s.arbiter.locks[g] = some z then none else s.arbiter.locks[g])
    ∧ (∀ g : Fin 4, t.generator g = if a.binding = some g then
          { wave := if (s.generator g).refCount ≤ 1 then none else (s.generator g).wave
            setting := (s.generator g).setting, refCount := (s.generator g).refCount - 1
            bound := (s.generator g).bound.erase z }
        else s.generator g)
    ∧ t.library = { s.library with slots := s.library.slots.set a.job.template (Slot.mk (s.slot a.job.template).template ((s.slot a.job.template).useCount - 1)) }

/-! ### Hold, release and cancellation -/

/-- JOB RELEASE (R97 to R101): the tests of R97 in order. A release found by test 1 ends a job in INTERVAL that has played
1 + minimum repeats frames, with the last phase end as its end time (R98, R91). -/
def Obligations.JobReleaseLookup : Prop :=
  ∀ (q : Byte) (tag : Half) (s : State), s.ready →
    (∀ zone : Byte, 8 ≤ zone.toNat → exec (.jobRelease q zone tag) s = .next (s.replying 0x29#8 q .badField .none))
    ∧ ∀ z : Fin 8,
      ((s.zone z).quietEnd.isSome → exec (.jobRelease q (byteOf z) tag) s = .next (s.replying 0x29#8 q .busy .none))
      ∧ ((s.zone z).quietEnd = none →
        (∀ a, (s.zone z).active = some a → a.job.tag = tag → a.job.mode.isHold = true → a.job.released = false → ∃ s1,
          s1 = { s with zones := s.zones.set z { s.zone z with
            active := some { a with job := { a.job with released := true } } } } ∧
          (a.state ≠ .interval ∨ a.framesStarted < 1 + (s.template a.job.template).header.minRepeats.toNat →
            exec (.jobRelease q (byteOf z) tag) s = .next (s1.replying 0x29#8 q .ok
              (.jobActive z tag a.framesStarted false (s1.zone z).state)))
          ∧ (∀ p e, a.play = some p → p.phase = none → p.lastPhaseEnd = some e →
              1 + (s.template a.job.template).header.minRepeats.toNat ≤ a.framesStarted →
              ∃ s2, s2 = (s1.endJob z .released (reading e)).considerActivation z ∧
              exec (.jobRelease q (byteOf z) tag) s = .next (s2.replying 0x29#8 q .ok
                (.jobActive z tag a.framesStarted true (s2.zone z).state))))
        ∧ (∀ j before behind, (∀ a, (s.zone z).active = some a → a.job.tag ≠ tag) →
            (s.zone z).queue = before ++ j :: behind → j.tag = tag →
            (∀ k ∈ before ++ behind, k.tag ≠ tag) → j.mode.isHold = true → j.released = false → ∃ s1,
            s1 = { s with zones := s.zones.set z { s.zone z with
              queue := before ++ { j with released := true } :: behind } }
            ∧ exec (.jobRelease q (byteOf z) tag) s = .next (s1.replying 0x29#8 q .ok
                (.releaseQueued z tag (before.length + 1) (s.zone z).state)))
        ∧ (∀ a, (s.zone z).active = some a → a.job.tag = tag → (∀ j ∈ (s.zone z).queue, j.tag ≠ tag) →
            (a.job.mode.isHold = true → a.job.released = true → exec (.jobRelease q (byteOf z) tag) s =
              .next (s.replying 0x29#8 q .already (.releaseAlready .active (some a.framesStarted))))
            ∧ (a.job.mode.isHold = false → exec (.jobRelease q (byteOf z) tag) s =
              .next (s.replying 0x29#8 q .notHold (.notHold .active (some (a.framesStarted, a.framesTarget))))))
        ∧ (∀ j, (∀ a, (s.zone z).active = some a → a.job.tag ≠ tag) → (s.zone z).queuedWith tag = some j →
            (j.mode.isHold = true → j.released = true → exec (.jobRelease q (byteOf z) tag) s =
              .next (s.replying 0x29#8 q .already (.releaseAlready .queued none)))
            ∧ (j.mode.isHold = false → exec (.jobRelease q (byteOf z) tag) s =
              .next (s.replying 0x29#8 q .notHold (.notHold .queued none))))
        ∧ ((∀ j ∈ (s.zone z).jobs, j.tag ≠ tag) →
            (∀ older c newer, (s.zone z).completions = older ++ c :: newer → c.tag = tag →
              (∀ d ∈ newer, d.tag ≠ tag) → c.outcome = .limit → exec (.jobRelease q (byteOf z) tag) s =
              .next (s.replying 0x29#8 q .tooLate (.tooLate tag c.framesStarted c.endTime)))
            ∧ (∀ older c newer, (s.zone z).completions = older ++ c :: newer → c.tag = tag →
              (∀ d ∈ newer, d.tag ≠ tag) → c.outcome ≠ .limit → exec (.jobRelease q (byteOf z) tag) s =
              .next (s.replying 0x29#8 q .notFound .none))
            ∧ ((∀ d ∈ (s.zone z).completions, d.tag ≠ tag) → exec (.jobRelease q (byteOf z) tag) s =
              .next (s.replying 0x29#8 q .notFound .none))))

/-- JOB CANCEL (R104 to R110): a queued job is removed with no record; the active job ends CANCELLED at once, or, for a
GRACEFUL cancel in FRAME, is marked; a second GRACEFUL cancel is answered ALREADY. -/
def Obligations.JobCancelRemovesEndsOrMarks : Prop :=
  ∀ (q : Byte) (tag : Half) (s : State), s.ready →
    (∀ zone mode : Byte, 8 ≤ zone.toNat ∨ 2 ≤ mode.toNat →
      exec (.jobCancel q zone tag mode) s = .next (s.replying 0x2A#8 q .badField .none))
    ∧ ∀ (z : Fin 8) (mode : Byte), mode.toNat < 2 →
      ((s.zone z).quietEnd.isSome → exec (.jobCancel q (byteOf z) tag mode) s = .next (s.replying 0x2A#8 q .busy .none))
      ∧ ((s.zone z).quietEnd = none →
        (∀ j before behind, (s.zone z).queue = before ++ j :: behind → j.tag = tag → (∀ k ∈ before, k.tag ≠ tag) → ∃ sl s1,
          sl = Slot.mk (s.slot j.template).template ((s.slot j.template).useCount - 1)
          ∧ s1 = { s with
            zones := s.zones.set z { s.zone z with queue := before ++ behind }
            library := { s.library with slots := s.library.slots.set j.template sl } }
          ∧ exec (.jobCancel q (byteOf z) tag mode) s = .next (s1.replying 0x2A#8 q .ok
              (.cancelQueued z tag j.template j.mode.isHold (before.length + behind.length) (s1.zone z).state)))
        ∧ (∀ a, (∀ j ∈ (s.zone z).queue, j.tag ≠ tag) → (s.zone z).active = some a → a.job.tag = tag →
          (mode = 0x00#8 → a.state = .frame → a.cancelAfterFrame = false → exec (.jobCancel q (byteOf z) tag mode) s =
            .next ({ s with zones := s.zones.set z { s.zone z with
              active := some { a with cancelAfterFrame := true } } }.replying 0x2A#8 q .ok
                (.jobActive z tag a.framesStarted false (s.zone z).state)))
          ∧ (mode = 0x00#8 → a.state = .frame → a.cancelAfterFrame = true → exec (.jobCancel q (byteOf z) tag mode) s =
            .next (s.replying 0x2A#8 q .already (.cancelAlready a.framesStarted)))
          ∧ (mode = 0x01#8 ∨ a.state ≠ .frame → ∃ s1, s1 = s.cancelNow z ∧ exec (.jobCancel q (byteOf z) tag mode) s =
            .next (s1.replying 0x2A#8 q .ok (.jobActive z tag a.framesStarted true (s1.zone z).state))))
        ∧ ((∀ j ∈ (s.zone z).jobs, j.tag ≠ tag) → exec (.jobCancel q (byteOf z) tag mode) s =
            .next (s.replying 0x2A#8 q .notFound .none)))

/-- An immediate end (R106, R107, R109, R84): the job ends CANCELLED with the reading of the request as its end time, a
high half in progress is kept, one that begins at this very instant is not, and the next activation is considered. -/
def Obligations.ImmediateEndKeepsHighHalf : Prop :=
  ∀ (z : Fin 8) (a : ActiveJob) (s : State), (s.zone z).active = some a → ∃ t : State,
    s.cancelNow z = t.considerActivation z
    ∧ t = { s.endJob z .cancelled s.timeBase with zones := t.zones }
    ∧ (∀ y : Fin 8, y ≠ z → t.zone y = s.zone y)
    ∧ t.zone z = { (s.endJob z .cancelled s.timeBase).zone z with emission := (t.zone z).emission }
    ∧ (t.zone z).gateOpen = false
    ∧ ((s.zone z).gateOpen = false → (t.zone z).emission = (s.zone z).emission)
    ∧ (∀ e, (s.zone z).gateOpen = true → (s.zone z).emission = some e → e.start ≠ s.ticks → (t.zone z).emission = some e)
    ∧ (∀ e, (s.zone z).gateOpen = true → (s.zone z).emission = some e → e.start = s.ticks → (t.zone z).emission = none)

/-- ZONE FLUSH (R112, R113): every queued job leaves, each lowering its template's use count, and then the action is
applied to the active job. -/
def Obligations.ZoneFlushRemovesThenActs : Prop :=
  ∀ (q : Byte) (s : State), s.ready →
    (∀ zone action : Byte, 8 ≤ zone.toNat ∨ 3 ≤ action.toNat →
      exec (.zoneFlush q zone action) s = .next (s.replying 0x2B#8 q .badField .none))
    ∧ ∀ (z : Fin 8) (action : Byte), action.toNat < 3 →
      ((s.zone z).quietEnd.isSome → exec (.zoneFlush q (byteOf z) action) s = .next (s.replying 0x2B#8 q .busy .none))
      ∧ ((s.zone z).quietEnd = none → ∃ (s1 : State) (tags : List Half), tags = (s.zone z).queue.map Job.tag
        ∧ (∀ i : Fin 64, s1.slot i = Slot.mk (s.slot i).template ((s.slot i).useCount
            - ((s.zone z).queue.filter fun j => decide (j.template = i)).length))
        ∧ s1 = { s with zones := s.zones.set z { s.zone z with queue := [] }
                        library := { s.library with slots := s1.library.slots } } ∧
        ((s.zone z).active = none → exec (.zoneFlush q (byteOf z) action) s =
          .next (s1.replying 0x2B#8 q .ok (.zoneFlush z tags .none (s1.zone z).state)))
        ∧ ∀ a, (s.zone z).active = some a →
          (action = 0x00#8 → exec (.zoneFlush q (byteOf z) action) s =
            .next (s1.replying 0x2B#8 q .ok (.zoneFlush z tags (.kept a.job.tag a.framesStarted) (s1.zone z).state)))
          ∧ (action = 0x01#8 → a.state = .frame → ∃ s2, s2 = { s1 with zones := s1.zones.set z { s1.zone z with
              active := some { a with cancelAfterFrame := true } } } ∧ exec (.zoneFlush q (byteOf z) action) s =
            .next (s2.replying 0x2B#8 q .ok (.zoneFlush z tags (.pending a.job.tag a.framesStarted) (s2.zone z).state)))
          ∧ (action = 0x02#8 ∨ action = 0x01#8 ∧ a.state ≠ .frame → ∃ s2, s2 = s1.cancelNow z
            ∧ exec (.zoneFlush q (byteOf z) action) s =
            .next (s2.replying 0x2B#8 q .ok (.zoneFlush z tags (.ended a.job.tag a.framesStarted) (s2.zone z).state))))

/-! ### Emitter drivers, faults and zone reset -/

/-- FAULT CLEAR (R120). -/
def Obligations.FaultClearLeavesFaulted : Prop :=
  ∀ (q : Byte) (s : State), s.ready →
    (∀ zone : Byte, 8 ≤ zone.toNat → exec (.faultClear q zone) s = .next (s.replying 0x23#8 q .badField .none))
    ∧ ∀ z : Fin 8,
      ((s.zone z).quietEnd.isSome → exec (.faultClear q (byteOf z)) s = .next (s.replying 0x23#8 q .busy .none))
      ∧ ((s.zone z).quietEnd = none → (s.zone z).state ≠ .faulted →
        exec (.faultClear q (byteOf z)) s = .next (s.replying 0x23#8 q .badState .none))
      ∧ ((s.zone z).state = .faulted → ∃ s1,
        s1 = { s with zones := s.zones.set z { s.zone z with condition := .normal } }.considerActivation z
        ∧ exec (.faultClear q (byteOf z)) s = .next (s1.replying 0x23#8 q .ok
            (.faultClear z (s.zone z).condition (s.zone z).queue.length (s1.zone z).state)))

/-- ZONE RESET (R122) and QUIET_TIME_EXPIRY (R123): everything the zone holds goes, its configuration stays, what its job
held is given back, and 500 µs of quiet time begin. The model's: the expiry at the later of now and its deadline, and no
change when no quiet time runs (log 3). -/
def Obligations.ZoneResetClearsZone : Prop :=
  (∀ (q : Byte) (s : State), s.ready →
    (∀ zone : Byte, 8 ≤ zone.toNat → exec (.zoneReset q zone) s = .next (s.replying 0x22#8 q .badField .none))
    ∧ ∀ z : Fin 8,
      ((s.zone z).quietEnd.isSome → exec (.zoneReset q (byteOf z)) s = .next (s.replying 0x22#8 q .busy .none))
      ∧ ((s.zone z).quietEnd = none → ∃ t : State, exec (.zoneReset q (byteOf z)) s =
          .next (t.replying 0x22#8 q .ok (.zoneReset z ((s.zone z).active.map fun a => a.job.tag)
            ((s.zone z).queue.map Job.tag) (s.zone z).completions.length .resetting))
        ∧ t = { s with zones := t.zones, arbiter := t.arbiter, generators := t.generators, library := t.library }
        ∧ t.zones = s.zones.set z { config := (s.zone z).config, queue := [], active := none, completions := []
                                    toggles := Vector.replicate 64 false, quietEnd := some (s.ticks + 500 * 8)
                                    condition := .normal, openSeen := false, overloadSeen := false, emission := none }
        ∧ (∀ i : Fin 64, t.slot i = Slot.mk (s.slot i).template ((s.slot i).useCount
            - ((s.zone z).jobs.filter fun j => decide (j.template = i)).length))
        ∧ t.library = { s.library with slots := t.library.slots }
        ∧ t.arbiter = { s.arbiter with waiting := t.arbiter.waiting, locks := t.arbiter.locks }
        ∧ ((s.zone z).active = none → t.arbiter = s.arbiter ∧ t.generators = s.generators)
        ∧ ∀ a, (s.zone z).active = some a →
          t.arbiter.waiting = s.arbiter.waiting.filter (fun w => decide (w ≠ z))
          ∧ (∀ g : Fin 4, t.arbiter.locks[g] = if s.arbiter.locks[g] = some z then none else s.arbiter.locks[g])
          ∧ (∀ g : Fin 4, t.generator g = if a.binding = some g then (s.generator g).release z else s.generator g)))
    ∧ ∀ (z : Fin 8) (s : State),
      (∀ d, (s.zone z).quietEnd = some d → ∃ t, exec (.quietTimeExpiry z) s = .next t
        ∧ t = { s with ticks := max s.ticks d, zones := s.zones.set z { s.zone z with quietEnd := none } }
        ∧ ((s.zone z).active = none → (s.zone z).queue = [] → (s.zone z).condition = .normal →
            (t.zone z).state = if (s.zone z).config.enabled then .idle else .disabled))
      ∧ ((s.zone z).quietEnd = none → exec (.quietTimeExpiry z) s = .next s)

/-- DRIVER_FAULT (R116 to R118): a report while the zone samples cuts the output, ends the job FAULT, sets the condition
and the latched flag, and adds the pair to the FAULT latch once; any other report changes the pin alone. The model's: the
row sets the level at ZSENSE, which stays and may be NORMAL (log 24), and while reset is asserted it does no more (log 22). -/
def Obligations.DriverFaultEndsJob : Prop :=
  ∀ (z : Fin 8) (report : Condition) (s : State), ∃ s1,
    s1 = { s with pins := { s.pins with zsense := s.pins.zsense.set z report } } ∧
    (s.assertedReset ≠ none ∨ report = .normal ∨ (s.zone z).gateOpen = false ∨ (s.zone z).config.dark = true →
      exec (.driverFault z report) s = .next s1)
    ∧ (∀ k, s.assertedReset = none → report = k.condition → (s.zone z).gateOpen = true →
        (s.zone z).config.dark = false → ∃ s2 t, exec (.driverFault z report) s = .next t
        ∧ s2 = { s1 with zones := s.zones.set z { s.zone z with emission := none } }.endJob z .fault s.timeBase
        ∧ t = { s2 with zones := t.zones, notices := t.notices }
        ∧ (∀ y : Fin 8, y ≠ z → t.zone y = s2.zone y)
        ∧ t.zone z = { s2.zone z with
            condition := report
            openSeen := (s.zone z).openSeen || decide (k = .openLoad)
            overloadSeen := (s.zone z).overloadSeen || decide (k = .overload) }
        ∧ (t.zone z).active = none ∧ t.loopback z = false ∧ t.zout z = false
        ∧ t.notices = { s.notices with faultLatch := t.notices.faultLatch }
        ∧ t.notices.faultLatch = if (z, k) ∈ s.notices.faultLatch then s.notices.faultLatch
            else s.notices.faultLatch ++ [(z, k)])

/-! ### Start Arbiter, Carrier Pool, Time Base -/

/-- SLOT PLAN (R48): a complete plan is staged, whatever plan was staged before; the active plan does not change. -/
def Obligations.SlotPlanStagesPlan : Prop :=
  ∀ (q : Byte) (length : Half) (masks : Vector Half 8) (s : State), s.ready →
    (length.toNat = 0 ∨ 256 < length.toNat ∨ (∃ z : Fin 8, masks[z] = 0) →
      exec (.slotPlan q length masks) s = .next (s.replying 0x30#8 q .badField .none))
    ∧ (1 ≤ length.toNat → length.toNat ≤ 256 → (∀ z : Fin 8, masks[z] ≠ 0) → exec (.slotPlan q length masks) s =
      .next ({ s with arbiter := { s.arbiter with stagedPlan := some ⟨length.toNat, masks⟩ } }.replying 0x30#8 q .ok
        (.slotPlan s.arbiter.stagedPlan.isSome s.arbiter.slotIndex (16 - s.arbiter.slotIndex.val))))

/-- SLOT QUERY, CARRIER QUERY, TIME QUERY and IDENTIFY change nothing but the port, and report what R59, R73, R64 and
R180 list. -/
def Obligations.SharedBlockQueriesReport : Prop :=
  ∀ (q : Byte) (s : State), s.ready →
    (∀ sel : Byte, 2 ≤ sel.toNat → exec (.slotQuery q sel) s = .next (s.replying 0x31#8 q .badField .none))
    ∧ (∀ sel : Byte, sel.toNat < 2 → ∃ report,
        exec (.slotQuery q sel) s = .next (s.replying 0x31#8 q .ok (.slotQuery report))
        ∧ report.staged = s.arbiter.stagedPlan.isSome ∧ report.index = s.arbiter.slotIndex
        ∧ report.locks = s.arbiter.locks
        ∧ report.plan = (if sel = 0x00#8 then some s.arbiter.activePlan else s.arbiter.stagedPlan)
        ∧ (WaitingLaw s → List.Forall₂ (fun z entry => ∃ a, (s.zone z).active = some a
            ∧ entry = (z, a.job.tag, a.job.template)) s.arbiter.waiting report.waiting))
    ∧ (∃ report, exec (.carrierQuery q) s = .next (s.replying 0x34#8 q .ok (.carrierQuery report))
        ∧ ∀ g : Fin 4, report[g].running = (s.generator g).wave.isSome ∧ report[g].setting = (s.generator g).setting
          ∧ report[g].refCount = (s.generator g).refCount
          ∧ (∀ z : Fin 8, report[g].bound[z] = decide (z ∈ (s.generator g).bound))
          ∧ report[g].period = (s.generator g).setting.map (fun c => c.high + c.low)
          ∧ report[g].band = (s.generator g).setting.map (fun c => if 100 ≤ c.high + c.low then .lf else .hf))
    ∧ exec (.timeQuery q) s = .next (s.replying 0x35#8 q .ok (.timeQuery (BitVec.ofNat 32 (s.ticks / 8))))
    ∧ (∃ report, exec (.identify q) s = .next (s.replying 0x01#8 q .ok (.identify report))
        ∧ report.vendor = [0x49#8, 0x54#8, 0x52#8, 0x45#8, 0x44#8, 0x4F#8]
        ∧ report.part = [0x43#8, 0x56#8, 0x32#8, 0x30#8, 0x38#8] ∧ report.revision = 0x43#8
        ∧ report.zones = 8 ∧ report.slots = 64 ∧ report.cells = 1536 ∧ report.generators = 4 ∧ report.lines = 4
        ∧ report.captureEntries = 512 ∧ report.baud = s.port.baud
        ∧ ∀ z : Fin 8, report.zclass[z] = decide ((s.zone z).config.strap = .wired))

/-- SLOT_BOUNDARY (R45, R49, R52, R53): the index steps and wraps, a staged plan becomes active at the plan boundary before
the walk, the new slot has the length of the plan then active, and the waiting list is walked oldest first. Conditions
that stand at the gates just opened are taken as DRIVER_FAULT takes them (R117). The model's: they are taken when the walk is
over (log 14), the boundary comes at the later of now and the slot's end (log 3), and none while reset is asserted (log 22). -/
def Obligations.SlotBoundaryStepsAndWalks : Prop :=
  (∀ (z : Fin 8) (s : State),
    (s.pins.zsense[z] = .normal ∨ (s.zone z).config.dark = true ∨ (s.zone z).gateOpen = false → s.sense z = s)
    ∧ (s.assertedReset = none → exec (.driverFault z s.pins.zsense[z]) s = .next (s.sense z)))
  ∧ ∀ s : State,
    (s.assertedReset ≠ none → exec .slotBoundary s = .next s)
    ∧ (s.assertedReset = none → ∃ now index plan s1, now = max s.ticks s.arbiter.slotEnd
      ∧ index.val = (s.arbiter.slotIndex.val + 1) % 16
      ∧ plan = (if index = 0 then s.arbiter.stagedPlan.getD s.arbiter.activePlan else s.arbiter.activePlan)
      ∧ s1 = { s with ticks := now, arbiter := { s.arbiter with
          slotIndex := index, activePlan := plan, slotEnd := now + plan.length * 50 * 8
          stagedPlan := if index = 0 then none else s.arbiter.stagedPlan } }
      ∧ exec .slotBoundary s =
          .next (s.arbiter.waiting.foldl State.sense (s.arbiter.waiting.foldl State.visit s1)))

/-- One visit of the grant walk (R52, R54, R87): the three conditions in order; a zone that fails one is passed over with
nothing changed; a zone that meets them takes lock and binding, leaves the list and starts its first frame. A carrier is obtained from a template's widths, unless both are 0 (R2). The
model's: bit n of a slot mask is slot n (log 31), and a high half that begins at an earlier one's very end is emitted
(log 15). -/
def Obligations.GrantWalkVisit : Prop :=
  (∀ (h : TemplateHeader) (c : Setting), carrierOf h = some c ↔
    ¬ (h.carrierHigh = 0 ∧ h.carrierLow = 0) ∧ c = ⟨h.carrierHigh.toNat, h.carrierLow.toNat⟩) ∧
  ∀ (z : Fin 8) (a : ActiveJob) (s : State), (s.zone z).active = some a → ∃ t group, t = s.template a.job.template
    ∧ group = (s.zone z).config.group ∧
    (s.arbiter.activePlan.masks[z].getLsbD s.arbiter.slotIndex.val = false → s.visit z = s)
    ∧ (∀ g, group = some g → s.arbiter.locks[g] ≠ none → s.visit z = s)
    ∧ (∀ c, carrierOf t.header = some c → s.obtainable c = none → s.visit z = s)
    ∧ (s.arbiter.activePlan.masks[z].getLsbD s.arbiter.slotIndex.val = true →
        (∀ g, group = some g → s.arbiter.locks[g] = none) →
        ∀ binding, (carrierOf t.header = none ∧ binding = none
          ∨ ∃ c g, carrierOf t.header = some c ∧ s.obtainable c = some g ∧ binding = some g) →
        ∃ v, s.visit z = v
        ∧ v = { s with zones := v.zones, arbiter := v.arbiter, generators := v.generators }
        ∧ v.arbiter = { s.arbiter with waiting := s.arbiter.waiting.filter (fun w => decide (w ≠ z)), locks := v.arbiter.locks }
        ∧ (∀ g : Fin 4, v.arbiter.locks[g] = if group = some g then some z else s.arbiter.locks[g])
        ∧ (∀ y : Fin 8, y ≠ z → v.zone y = s.zone y)
        ∧ (∀ g : Fin 4, binding ≠ some g → v.generator g = s.generator g)
        ∧ (binding = none → v.generators = s.generators)
        ∧ (∀ c g, carrierOf t.header = some c → binding = some g → v.generator g = (s.obtain g c z).generator g)
        ∧ ∃ p, FrameBegun s z a s.ticks (a.play.bind PlayState.lastPhaseEnd) p ∧ ∃ now, now = { a with binding := binding }.begun s.timeBase p
          ∧ v.zone z = { s.zone z with
              active := some now
              emission := gateEmission (s.zone z) (v.boundWave z) s.ticks false ({ s.zone z with active := some now }.gateOpen) })

/-- Obtaining a carrier (R67): share a RUNNING generator of the same two widths; otherwise start the lowest-numbered FREE
one with a high half now; otherwise nothing is obtainable. -/
def Obligations.CarrierObtained : Prop :=
  ∀ (c : Setting) (z : Fin 8) (s : State),
    (∀ g : Fin 4, (s.generator g).wave.isSome → (s.generator g).setting = some c →
      ∃ h : Fin 4, s.obtainable c = some h ∧ (s.generator h).wave.isSome ∧ (s.generator h).setting = some c
        ∧ (s.obtain h c z).generator h = { s.generator h with
            refCount := (s.generator h).refCount + 1, bound := (s.generator h).bound ++ [z] })
    ∧ ((∀ g : Fin 4, (s.generator g).wave.isSome → (s.generator g).setting ≠ some c) →
      (∀ g : Fin 4, (s.generator g).wave = none → (∀ f : Fin 4, f < g → (s.generator f).wave.isSome) →
        s.obtainable c = some g ∧ (s.obtain g c z).generator g =
          { wave := some { high := true, start := s.ticks, stop := s.ticks + c.high }, setting := some c
            refCount := 1, bound := [z] })
      ∧ ((∀ g : Fin 4, (s.generator g).wave.isSome) → s.obtainable c = none))
    ∧ ∀ g h : Fin 4, h ≠ g → (s.obtain g c z).generator h = s.generator h

/-- HIGH_HALF_START and HIGH_HALF_END (R66, R70, R84): the halves of a RUNNING generator alternate with its own widths; a
high half that begins while the gate is open is emitted whole unless an earlier one still completes, and one that begins
while the gate is closed is not; a completing high half ends at its own width. A zone's loopback waveform is high while a
high half is emitted or, for a BASEBAND job, its gate is open, and ZOUT carries it unless the zone is dark (R82, R83, R86).
The model's: an event at the later of now and its half's end, and no change of a half that does not run (log 3); a half that
begins at an earlier one's very end is emitted (log 15); a completing high half keeps its job's dark setting (log 26). -/
def Obligations.CarrierHalvesAlternate : Prop :=
  (∀ (z : Fin 8) (s : State),
    ((s.zone z).gateOpen = true ↔ PlaysMark (s.zone z))
    ∧ (s.loopback z = true ↔ (s.zone z).emission ≠ none ∨ PlaysMark (s.zone z) ∧ PlaysBaseband s z)
    ∧ (s.zout z = true ↔ (∃ out, (s.zone z).emission = some out ∧ out.dark = false)
        ∨ PlaysMark (s.zone z) ∧ PlaysBaseband s z ∧ (s.zone z).config.dark = false))
  ∧ ∀ s : State,
    (∀ (g : Fin 4) w c, (s.generator g).wave = some w → (s.generator g).setting = some c → ∃ now, now = max s.ticks w.stop ∧
      (w.high = false → ∃ t, exec (.highHalfStart g) s = .next t
        ∧ t = { s with ticks := now, zones := t.zones, generators := t.generators }
        ∧ t.generators = s.generators.set g
            { s.generator g with wave := some { high := true, start := now, stop := now + c.high } }
        ∧ ∀ z : Fin 8, ∃ out, t.zone z = { s.zone z with emission := out } ∧ out =
            if (s.zone z).binding = some g ∧ (s.zone z).gateOpen = true ∧ (∀ e ∈ (s.zone z).emission, e.stop ≤ now) then
              some { start := now, stop := now + c.high, dark := (s.zone z).config.dark }
            else (s.zone z).emission)
      ∧ (w.high = true → ∃ t, exec (.highHalfEnd (.generator g)) s = .next t
        ∧ t = { s with ticks := now, zones := t.zones, generators := t.generators }
        ∧ t.generators = s.generators.set g
            { s.generator g with wave := some { high := false, start := now, stop := now + c.low } }
        ∧ ∀ z : Fin 8, ∃ out, t.zone z = { s.zone z with emission := out } ∧ out =
            if (s.zone z).binding = some g ∧ (∀ e ∈ (s.zone z).emission, e.stop ≤ now) then none
            else (s.zone z).emission)
      ∧ (w.high = true → exec (.highHalfStart g) s = .next s)
      ∧ (w.high = false → exec (.highHalfEnd (.generator g)) s = .next s))
    ∧ (∀ g : Fin 4, (s.generator g).wave = none →
      exec (.highHalfStart g) s = .next s ∧ exec (.highHalfEnd (.generator g)) s = .next s)
    ∧ (∀ (z : Fin 8) e, (s.zone z).emission = some e → exec (.highHalfEnd (.driver z)) s =
      .next { s with ticks := max s.ticks e.stop, zones := s.zones.set z { s.zone z with emission := none } })
    ∧ (∀ z : Fin 8, (s.zone z).emission = none → exec (.highHalfEnd (.driver z)) s = .next s)

/-! ### Frame playback -/

/-- The cursor's walk plays exactly the phases that the expansion of a list gives, one after another, and stops after the
last (R77 to R81). -/
def Obligations.CursorPlaysFramePhases : Prop :=
  ∀ (h : TemplateHeader) (payload : List Bool) (toggleBit : Bool) (elements : List Element),
    (∀ e ∈ elements, e ≠ .dataNext 0 ∧ e ≠ .dataEcho 0) → ∀ n : Nat,
      ((fun c : Cursor => c.next elements)^[n] Cursor.first).phase h payload toggleBit elements
        = (framePhases h payload toggleBit 0 elements)[n]?

/-- The frame end decision (R90): its tests in order, the first that holds gives the result. -/
def Obligations.FrameEndDecisionInOrder : Prop :=
  ∀ (a : ActiveJob) (t : Template),
    (a.cancelAfterFrame = true → frameEndDecision a t = some .cancelled)
    ∧ (a.cancelAfterFrame = false →
      (∀ r, a.job.mode = .tap r →
        (a.framesTarget ≤ a.framesStarted ∨ a.framesStarted = 4096 → frameEndDecision a t = some .done)
        ∧ (a.framesStarted < a.framesTarget → a.framesStarted ≠ 4096 → frameEndDecision a t = none))
      ∧ (∀ o, a.job.mode = .hold o →
        (a.job.released = true → 1 + t.header.minRepeats.toNat ≤ a.framesStarted →
          frameEndDecision a t = some .released)
        ∧ (a.job.released = false ∨ a.framesStarted < 1 + t.header.minRepeats.toNat →
          (a.framesStarted = a.framesTarget → frameEndDecision a t = some .limit)
          ∧ (a.framesStarted ≠ a.framesTarget → frameEndDecision a t = none))))

/-- PHASE_END (R75, R81, R82, R84, R88, R90, R92): the next phase begins at the instant this one ends; after the last
phase the decision ends the job, starts the next frame at once, or leaves the zone in INTERVAL. The gate follows, and a
condition that stands at an open gate is taken as a report (R117). The model's: the event at the later of now and the
phase's end, and no change of a zone that plays no phase (log 3); a high half that begins at an earlier one's very end is
emitted (log 15). -/
def Obligations.PhaseEndPlaysOn : Prop :=
  (∀ (z : Fin 8) (s : State), (s.zone z).phase = none → exec (.phaseEnd z) s = .next s)
  ∧ ∀ (z : Fin 8) (a : ActiveJob) (p : PlayState) (ph : Phase) (s : State),
    (s.zone z).active = some a → a.play = some p → p.phase = some ph →
    ∃ (now : Nat) (tm : Template) (c : Cursor) (next : Option (PhaseKind × Nat)) (s1 s2 u : State),
      now = max s.ticks (ph.start + ph.duration * 8) ∧ tm = s.template a.job.template
      ∧ c = p.cursor.next (tm.elements p.list) ∧ s1 = { s with ticks := now }
      ∧ next = c.phase tm.header a.job.payload (s.zone z).toggles[a.job.template] (tm.elements p.list)
      ∧ (∀ k d, next = some (k, d) → s2 = { s1 with zones := s.zones.set z { s.zone z with
          active := some { a with play := some { p with cursor := c, phase := some ⟨k, d, now⟩ } } } })
      ∧ (next = none →
        (∀ o, frameEndDecision a tm = some o → s2 = (s1.endJob z o s1.timeBase).considerActivation z)
        ∧ (frameEndDecision a tm = none →
          (∀ d, p.deadline = some d → now < d → s2 = { s1 with zones := s.zones.set z { s.zone z with
            active := some { a with play := some { p with phase := none, lastPhaseEnd := some now } } } })
          ∧ ((∀ d, p.deadline = some d → d ≤ now) → ∃ p', FrameBegun s z a now (some now) p' ∧
            s2 = { s1 with zones := s.zones.set z { s.zone z with active := some (a.begun s1.timeBase p') } })))
      ∧ u = s2.regated z (decide (ph.kind = .mark))
      ∧ (s.pins.zsense[z] = .normal ∨ (s.zone z).config.dark = true → exec (.phaseEnd z) s = .next u)
      ∧ (s.assertedReset = none → exec (.phaseEnd z) s = exec (.driverFault z s.pins.zsense[z]) u)

/-- FRAME_TIMER_EXPIRY (R87, R89): a zone in INTERVAL starts its next frame at the deadline. The model's: the event at the
later of now and the deadline, and no change of any other zone (log 3). -/
def Obligations.FrameTimerStartsFrame : Prop :=
  ∀ (z : Fin 8) (s : State),
    ((∀ a p, (s.zone z).active = some a → a.play = some p → p.phase ≠ none ∨ p.deadline = none) →
      exec (.frameTimerExpiry z) s = .next s)
    ∧ ∀ a p d, (s.zone z).active = some a → a.play = some p → p.phase = none → p.deadline = some d →
      ∃ s1 p' u, s1 = { s with ticks := max s.ticks d } ∧ FrameBegun s z a (max s.ticks d) p.lastPhaseEnd p'
      ∧ u = { s1 with zones := s.zones.set z { s.zone z with active := some (a.begun s1.timeBase p') } }.regated z false
      ∧ (s.pins.zsense[z] = .normal ∨ (s.zone z).config.dark = true → exec (.frameTimerExpiry z) s = .next u)
      ∧ (s.assertedReset = none → exec (.frameTimerExpiry z) s = exec (.driverFault z s.pins.zsense[z]) u)

/-! ### Trigger lines -/

/-- TRIGGER BIND and TRIGGER QUERY (R137, R139, R128): the checks in order, the five steps of an accepted request, and the
entry of a line. -/
def Obligations.TriggerBindReplacesBinding : Prop :=
  ∀ (q : Byte) (s : State), s.ready →
    (∀ line b, 4 ≤ line.toNat → (Request.triggerBind line b).lengthOk = true →
      exec (.triggerBind q line b) s = .next (s.replying 0x38#8 q .badField .none)
      ∧ exec (.triggerQuery q line) s = .next (s.replying 0x39#8 q .badField .none))
    ∧ ∀ n : Fin 4,
      exec (.triggerQuery q (byteOf n)) s = .next (s.replying 0x39#8 q .ok (.triggerQuery
        { line := n, state := (s.line n).state, binding := (s.line n).binding, taken := (s.line n).taken
          pin := s.pins.trig[n], debouncing := (s.line n).debounceEnd.isSome }))
      ∧ ((s.line n).binding = none →
        exec (.triggerBind q (byteOf n) none) s = .next (s.replying 0x38#8 q .already .none))
      ∧ (∀ r, (Request.triggerBind (byteOf n) (some r)).lengthOk = true →
        ((∀ b, ¬ BindingRead r b) →
          exec (.triggerBind q (byteOf n) (some r)) s = .next (s.replying 0x38#8 q .badField .none))
        ∧ (∀ b, BindingRead r b → (s.slot b.template).template = none →
          exec (.triggerBind q (byteOf n) (some r)) s = .next (s.replying 0x38#8 q .noTemplate .none))
        ∧ (∀ b t, BindingRead r b → (s.slot b.template).template = some t → r.payloadLength.toNat ≠ dataBits t.main →
          exec (.triggerBind q (byteOf n) (some r)) s = .next (s.replying 0x38#8 q .badPayload .none)))
      ∧ ∀ (record : Option BindingRecord) (new : Option Binding),
        (record = none ∧ new = none ∧ (s.line n).binding ≠ none
          ∨ ∃ r b t, record = some r ∧ (Request.triggerBind (byteOf n) (some r)).lengthOk = true ∧ BindingRead r b
            ∧ (s.slot b.template).template = some t ∧ r.payloadLength.toNat = dataBits t.main ∧ new = some b) →
        ∃ s1 t : State,
          (∀ b, (s.line n).binding = some b → (s.line n).state = .holding →
            s1 = (answer (.jobRelease (byteOf b.zone) b.tag) s).state)
          ∧ ((s.line n).binding = none ∨ (s.line n).state ≠ .holding → s1 = s)
          ∧ t = { s1 with
              lines := s1.lines.set n
                { binding := new, taken := s.pins.trig[n], debounceEnd := none
                  state := if new = none then .unbound else if s.pins.trig[n] = true then .waitLow else .armed }
              library := { s1.library with slots := t.library.slots } }
          ∧ (∀ i : Fin 64, t.slot i = Slot.mk (s1.slot i).template ((s1.slot i).useCount
              - (if (s.line n).binding.map Binding.template = some i then 1 else 0)
              + (if new.map Binding.template = some i then 1 else 0)))
          ∧ exec (.triggerBind q (byteOf n) record) s = .next (t.replying 0x38#8 q .ok
              (.triggerBind n (s.line n).binding.isSome (decide ((s.line n).state = .holding)) (t.line n).state s.pins.trig[n]))

/-- TRIG_PIN_CHANGE and DEBOUNCE_EXPIRY (R129): a change of the pin starts the debounce timer, a return to the taken level
stops it, and its end, or a debounce time of 0, takes the level (`LineEventsAct`). The model's: the expiry at the later of
now and its deadline, and no change when the timer is stopped (log 3); while reset is asserted the pin alone moves (log 22);
a level that the pin has already is no change (log 29). -/
def Obligations.TrigPinIsDebounced : Prop :=
  ∀ (n : Fin 4) (s : State),
    (∀ level, ∃ s1, s1 = { s with pins := { s.pins with trig := s.pins.trig.set n level } } ∧
      (s.assertedReset ≠ none ∨ s.pins.trig[n] = level → exec (.trigPinChange n level) s = .next s1)
      ∧ (s.assertedReset = none → s.pins.trig[n] ≠ level →
        ((s.line n).taken = level → exec (.trigPinChange n level) s =
          .next { s1 with lines := s.lines.set n { s.line n with debounceEnd := none } })
        ∧ ((s.line n).taken ≠ level → (s.line n).debounceEnd ≠ none → exec (.trigPinChange n level) s = .next s1)
        ∧ ((s.line n).taken ≠ level → (s.line n).debounceEnd = none → (∀ b, (s.line n).binding = some b → b.debounce = 0) →
          exec (.trigPinChange n level) s = .next (s1.takeLevel n level))
        ∧ (∀ b, (s.line n).taken ≠ level → (s.line n).debounceEnd = none → (s.line n).binding = some b → 0 < b.debounce →
          exec (.trigPinChange n level) s =
            .next { s1 with lines := s.lines.set n { s.line n with debounceEnd := some (s.ticks + b.debounce * 8) } })))
    ∧ ((s.line n).debounceEnd = none → exec (.debounceExpiry n) s = .next s)
    ∧ (∀ d, (s.line n).debounceEnd = some d → ∃ s1, s1 = { s with ticks := max s.ticks d } ∧
      (s.pins.trig[n] ≠ (s.line n).taken → exec (.debounceExpiry n) s = .next (s1.takeLevel n s.pins.trig[n]))
      ∧ (s.pins.trig[n] = (s.line n).taken → exec (.debounceExpiry n) s =
          .next { s1 with lines := s.lines.set n { s.line n with debounceEnd := none } }))

/-- A level taken on a line (R129, R130, R132 to R135): a rising event acts on an ARMED line by its mode, a falling event
brings the line to ARMED, with a release from HOLDING; any other change of level is the taken level's alone. -/
def Obligations.LineEventsAct : Prop :=
  ∀ (n : Fin 4) (s : State), ∃ high low : State,
    high = { s with lines := s.lines.set n { s.line n with taken := true, debounceEnd := none } }
    ∧ low = { s with lines := s.lines.set n { s.line n with taken := false, debounceEnd := none } }
    ∧ ((s.line n).binding = none ∨ (s.line n).state ≠ .armed → s.takeLevel n true = high)
    ∧ ((s.line n).binding = none ∨ (s.line n).state = .unbound ∨ (s.line n).state = .armed → s.takeLevel n false = low)
    ∧ ∀ b, (s.line n).binding = some b →
      ((s.line n).state = .waitLow ∨ (s.line n).state = .fired → s.takeLevel n false =
        { low with lines := s.lines.set n { s.line n with taken := false, debounceEnd := none, state := .armed } })
      ∧ ((s.line n).state = .holding → ∃ u, u = (answer (.jobRelease (byteOf b.zone) b.tag) low).state
        ∧ s.takeLevel n false = { u with lines := s.lines.set n { s.line n with taken := false, debounceEnd := none, state := .armed } })
      ∧ ((s.line n).state = .armed → ∃ fired holding : Line,
        fired = { s.line n with taken := true, debounceEnd := none, state := .fired }
        ∧ holding = { s.line n with taken := true, debounceEnd := none, state := .holding }
        ∧ (∀ r, b.mode = .edgeTap r →
            s.takeLevel n true = { high.lineSubmit b n (.tap r) with lines := s.lines.set n fired })
        ∧ (b.mode = .levelHold → (s.lineJudge b = none →
              s.takeLevel n true = { high.lineSubmit b n (.hold none) with lines := s.lines.set n holding })
            ∧ (s.lineJudge b ≠ none →
              s.takeLevel n true = { high.lineSubmit b n (.hold none) with lines := s.lines.set n fired }))
        ∧ (∀ r, b.mode = .edgeRetrigger r →
            (∀ a, (s.zone b.zone).active = some a → a.job.tag = b.tag → a.job.origin = .trigger n →
              (a.play = none ∨ a.job.mode.isHold = true → s.takeLevel n true = { high with lines := s.lines.set n fired })
              ∧ (a.play ≠ none → a.job.mode.isHold = false → ∃ s1,
                s1 = { high with zones := s.zones.set b.zone { s.zone b.zone with
                  active := some { a with framesTarget := min (a.framesStarted + r) 4096 } } }
                ∧ (a.state = .frame → s.takeLevel n true = { s1 with lines := s.lines.set n fired })
                ∧ (∀ p e, a.play = some p → p.phase = none → p.lastPhaseEnd = some e →
                    (a.framesStarted < min (a.framesStarted + r) 4096 → a.framesStarted ≠ 4096 →
                      s.takeLevel n true = { s1 with lines := s.lines.set n fired })
                    ∧ (min (a.framesStarted + r) 4096 ≤ a.framesStarted → s.takeLevel n true =
                      { (s1.endJob b.zone .done (reading e)).considerActivation b.zone with lines := s.lines.set n fired }))))
            ∧ ((∀ a, (s.zone b.zone).active = some a → ¬ (a.job.tag = b.tag ∧ a.job.origin = .trigger n)) →
              ((∃ j ∈ (s.zone b.zone).queue, j.tag = b.tag ∧ j.origin = .trigger n) →
                s.takeLevel n true = { high with lines := s.lines.set n fired })
              ∧ ((∀ j ∈ (s.zone b.zone).queue, ¬ (j.tag = b.tag ∧ j.origin = .trigger n)) →
                s.takeLevel n true = { high.lineSubmit b n (.tap r) with lines := s.lines.set n fired }))))

/-- A trigger submission (R131): judged by the checks of R33 in their order; a refusal is latched for the line and changes
nothing else; an accepted job joins the tail of the queue with its claim, and the activation condition is tested. -/
def Obligations.TriggerSubmissionJudged : Prop :=
  ∀ (b : Binding) (n : Fin 4) (m : JobMode) (s : State), ∃ zn sl, zn = s.zone b.zone ∧ sl = s.slot b.template ∧
    (∀ status, s.lineJudge b = some status → s.lineSubmit b n m =
      { s with notices := { s.notices with triggerLatch := s.notices.triggerLatch.set n (some status) } })
    ∧ (s.lineJudge b = none → ∃ s1,
      s1 = { s with
        zones := s.zones.set b.zone { zn with queue := zn.queue ++ [Job.mk b.tag b.template m b.payload (.trigger n) false] }
        library := { s.library with slots := s.library.slots.set b.template (Slot.mk sl.template (sl.useCount + 1)) } }
      ∧ s.lineSubmit b n m = s1.considerActivation b.zone)
    ∧ s.lineJudge b =
      if zn.config.enabled = false then some .zoneDisabled
      else if zn.quietEnd ≠ none then some .busy
      else match sl.template with
        | none => some .noTemplate
        | some t =>
          if b.payload.length ≠ dataBits t.main then some .badPayload
          else if zn.config.effective.has (bandOf t.header) = false then some .incompatible
          else if ∃ j ∈ zn.jobs, j.tag = b.tag then some .duplicateTag
          else if 8 ≤ zn.queue.length then some .queueFull
          else none

/-! ### Capture Unit -/

/-- CAPTURE ARM, CAPTURE STOP, CAPTURE QUERY and CAPTURE READ (R143, R151 to R153; the model's: the
initial space, log 20, and what IDLE shows, log 33). -/
def Obligations.CaptureRequests : Prop :=
  ∀ (q : Byte) (s : State), s.ready →
    (∀ src zone t g m, (∀ source, ¬ SourceRead src zone source) ∨ ¬ LimitsDefined t g m →
      exec (.captureArm q src zone t g m) s = .next (s.replying 0x40#8 q .badField .none))
    ∧ (∀ src zone t g m source, SourceRead src zone source → LimitsDefined t g m →
      (∀ c, s.capture = some c → c.isRunning →
        exec (.captureArm q src zone t g m) s = .next (s.replying 0x40#8 q .busy .none))
      ∧ ((∀ c, s.capture = some c → ¬ c.isRunning) → ∃ c : Session,
        exec (.captureArm q src zone t g m) s = .next ({ s with capture := some c }.replying 0x40#8 q .ok
          (.captureChange (s.capture.map Session.state) (s.capture.elim 0 fun c => c.list.length) (some .armed)))
        ∧ c.state = .armed ∧ c.source = source ∧ c.startTimeout = t.toNat ∧ c.endGap = g.toNat ∧ c.maxEntries = m.toNat
        ∧ c.startTime = none ∧ c.saturated = false ∧ c.truncated = false ∧ c.list = []
        ∧ c.estimate = (if source = .capd then .none else .pending) ∧ c.timeoutAt = s.ticks + t.toNat * 1000 * 8
        ∧ c.former = match source with
          | .capd => if s.pins.capd = true then .space none else .initial none
          | .capc => .initial (if s.pins.capc = true then none else some s.ticks)
          | .loopback z => .initial (if s.loopback z = true then none else some s.ticks)))
    ∧ exec (.captureStop q) s = .next ({ s with capture := none }.replying 0x41#8 q .ok
        (.captureChange (s.capture.map Session.state) (s.capture.elim 0 fun c => c.list.length) none))
    ∧ (∃ report, exec (.captureQuery q) s = .next (s.replying 0x42#8 q .ok (.captureQuery report))
      ∧ report.state = s.capture.map Session.state
      ∧ report.limits = s.capture.map (fun c => (c.source, c.startTimeout, c.endGap, c.maxEntries))
      ∧ report.entries = s.capture.elim 0 (fun c => c.list.length)
      ∧ report.saturated = s.capture.any Session.saturated ∧ report.truncated = s.capture.any Session.truncated
      ∧ report.startTime = s.capture.bind Session.startTime
      ∧ report.estimate = s.capture.map (fun c => (c.estimate, match c.estimate with
          | .present period _ => some (if 100 ≤ period then .lf else .hf)
          | _ => none)))
    ∧ (∀ offset count, count.toNat < 1 ∨ 24 < count.toNat →
      exec (.captureRead q offset count) s = .next (s.replying 0x43#8 q .badField .none))
    ∧ (∀ offset count, 1 ≤ count.toNat → count.toNat ≤ 24 →
      ((∀ c, s.capture = some c → c.state ≠ .done ∧ c.state ≠ .failed .stuck) →
        exec (.captureRead q offset count) s = .next (s.replying 0x43#8 q .badState .none))
      ∧ (∀ c, s.capture = some c → c.state = .done ∨ c.state = .failed .stuck →
        (c.list.length ≤ offset.toNat →
          exec (.captureRead q offset count) s = .next (s.replying 0x43#8 q .badField .none))
        ∧ (offset.toNat < c.list.length → exec (.captureRead q offset count) s = .next (s.replying 0x43#8 q .ok
            (.captureRead offset.toNat ((c.list.drop offset.toNat).take count.toNat))))))

/-- CAPD_EDGE (R144, R147, R148): with a session on CAPD running, a falling edge of the pin starts a mark and a rising edge
ends it; a low level at arming is waited out. Otherwise the pin alone changes. The model's: a level that the pin has already
is no transition (log 29), a mark is saturated by its whole microseconds (log 32), a long space is clamped (log 25). -/
def Obligations.CapdEdgeFormsMarks : Prop :=
  ∀ (level : Bool) (s : State), ∃ s1, s1 = { s with pins := { s.pins with capd := level } } ∧
    (s.pins.capd = level ∨ (∀ c, s.capture = some c → ¬ (c.isRunning ∧ c.source = .capd)) →
      exec (.capdEdge level) s = .next s1)
    ∧ ∀ c, s.pins.capd ≠ level → s.capture = some c → c.isRunning → c.source = .capd →
      (∀ t, c.former = .initial t → level = true →
        exec (.capdEdge level) s = .next { s1 with capture := some { c with former := .space none } })
      ∧ (∀ t, c.former = .initial t → level = false → exec (.capdEdge level) s = .next s1)
      ∧ (∀ t, c.former = .space t → level = false → c.state = .armed →
        exec (.capdEdge level) s = .next (s1.withSession (c.afterStart s.ticks)))
      ∧ (∀ t, c.former = .space (some t) → level = false → c.state = .recording →
        exec (.capdEdge level) s = .next (s1.withSession (c.afterSpace t s.ticks)))
      ∧ (∀ t, c.former = .space t → level = true → exec (.capdEdge level) s = .next s1)
      ∧ (∀ start last fall, c.former = .mark start last fall → level = true →
        exec (.capdEdge level) s = .next (s1.withSession (c.afterMark start last s.ticks)))
      ∧ (∀ start last fall, c.former = .mark start last fall → level = false → exec (.capdEdge level) s = .next s1)

/-- CAPTURE_RISING_EDGE, CAPTURE_FALLING_EDGE, MARK_END_TIMEOUT and INITIAL_SPACE_RECOGNISED (R145 to R149):
a rising edge less than 160 µs after the last one continues the mark, one at 160 µs or later ends it at its falling edge
and starts the next; a mark with the input high past 160 µs ends at its falling edge. The model's: the initial space (log 20),
an edge to the level last seen is none (log 29), the two timer events at the later of now and their deadline and no change
where they do not run (log 3), saturation by whole microseconds (log 32), a long space clamped (log 25). -/
def Obligations.CarrierEdgesFormMarks : Prop :=
  ∀ (s : State) (input : EdgeInput),
    (∃ up down : State, (up = { s with pins := { s.pins with capc := up.pins.capc } })
      ∧ (down = { s with pins := { s.pins with capc := down.pins.capc } })
      ∧ (input = .capc → up.pins.capc = true ∧ down.pins.capc = false)
      ∧ (input = .loopback → up = s ∧ down = s)
      ∧ ((∀ c, s.capture = some c → ¬ (c.isRunning ∧ EdgeTaken s c input true)) →
        exec (.captureRisingEdge input) s = .next up)
      ∧ ((∀ c, s.capture = some c → ¬ (c.isRunning ∧ EdgeTaken s c input false)) →
        exec (.captureFallingEdge input) s = .next down)
      ∧ ∀ c, s.capture = some c → c.isRunning →
        (EdgeTaken s c input true →
          (∀ t, c.former = .initial (some t) → s.ticks ≤ t + 160 * 8 →
            exec (.captureRisingEdge input) s = .next { up with capture := some { c with former := .initial none } })
          ∧ (∀ t, c.former = .initial (some t) → t + 160 * 8 < s.ticks → c.state = .armed →
            exec (.captureRisingEdge input) s = .next (up.withSession (c.afterStart s.ticks)))
          ∧ (∀ t, c.former = .space t → c.state = .armed →
            exec (.captureRisingEdge input) s = .next (up.withSession (c.afterStart s.ticks)))
          ∧ (∀ t, c.former = .space (some t) → c.state = .recording →
            exec (.captureRisingEdge input) s = .next (up.withSession (c.afterSpace t s.ticks)))
          ∧ (∀ start last fall, c.former = .mark start last (some fall) → s.ticks < last + 160 * 8 → ∃ k,
            k = (if c.estimate = .pending then c.edges + 1 else c.edges)
            ∧ exec (.captureRisingEdge input) s =
              .next { up with capture := some { c with former := .mark start s.ticks none, edges := k } })
          ∧ (∀ start last fall, c.former = .mark start last (some fall) → last + 160 * 8 ≤ s.ticks → c.state = .recording →
            ∃ c1, c1 = c.afterMark start last fall
            ∧ (c1.state = .recording → exec (.captureRisingEdge input) s = .next (up.withSession (c1.afterSpace fall s.ticks)))
            ∧ (c1.state = .done → exec (.captureRisingEdge input) s = .next (up.withSession c1))))
        ∧ (EdgeTaken s c input false →
          (c.former = .initial none →
            exec (.captureFallingEdge input) s = .next { down with capture := some { c with former := .initial (some s.ticks) } })
          ∧ (∀ start last, c.former = .mark start last none → s.ticks < last + 160 * 8 →
            exec (.captureFallingEdge input) s =
              .next { down with capture := some { c with former := .mark start last (some s.ticks) } })
          ∧ (∀ start last, c.former = .mark start last none → last + 160 * 8 ≤ s.ticks →
            exec (.captureFallingEdge input) s = .next (down.withSession (c.afterMark start last s.ticks)))))
    ∧ (∀ c start last fall, s.capture = some c → c.isRunning → c.source ≠ .capd → c.former = .mark start last (some fall) →
      exec .markEndTimeout s =
        .next ({ s with ticks := max s.ticks (last + 160 * 8) }.withSession (c.afterMark start last fall)))
    ∧ ((∀ c start last fall, s.capture = some c → c.isRunning → c.source = .capd ∨ c.former ≠ .mark start last (some fall)) →
      exec .markEndTimeout s = .next s)
    ∧ (∀ c t, s.capture = some c → c.isRunning → c.former = .initial (some t) → exec .initialSpaceRecognised s =
      .next { s with ticks := max s.ticks (t + 160 * 8), capture := some { c with former := .space none } })
    ∧ ((∀ c t, s.capture = some c → c.isRunning → c.former ≠ .initial (some t)) →
      exec .initialSpaceRecognised s = .next s)

/-- START_TIMEOUT_EXPIRY, END_GAP_EXPIRY and STUCK_MARK (R142, R147 to R150): in ARMED the session ends FAILED, NO_SIGNAL;
a space of the end gap in RECORDING ends it DONE, not appended; a mark of 250,000 µs ends it FAILED, STUCK. In every other
state of the unit nothing happens. The model's: the events at the later of now and their deadline, and no change where they
do not run (log 3); a carrier mark whose input has fallen but whose end is not recognised yet is STUCK too (log 19). -/
def Obligations.CaptureTimersEndSession : Prop :=
  ∀ s : State,
    (∀ c, s.capture = some c → c.state = .armed → exec .startTimeoutExpiry s =
      .next ({ s with ticks := max s.ticks c.timeoutAt }.withSession { c with state := .failed .noSignal }))
    ∧ ((∀ c, s.capture = some c → c.state ≠ .armed) → exec .startTimeoutExpiry s = .next s)
    ∧ (∀ c t, s.capture = some c → c.state = .recording → c.former = .space (some t) → exec .endGapExpiry s =
      .next ({ s with ticks := max s.ticks (t + c.endGap * 8) }.withSession { c with state := .done }))
    ∧ ((∀ c t, s.capture = some c → c.state ≠ .recording ∨ c.former ≠ .space (some t)) → exec .endGapExpiry s = .next s)
    ∧ (∀ c start last fall, s.capture = some c → c.state = .recording → c.former = .mark start last fall → ∃ k,
      k = (if c.estimate = .pending then settledEstimate c.edges (last - start) else c.estimate) ∧ exec .stuckMark s =
      .next ({ s with ticks := max s.ticks (start + 250000 * 8) }.withSession
        { c with list := c.list ++ [65535], saturated := true, estimate := k, state := .failed .stuck }))
    ∧ ((∀ c start last fall, s.capture = some c → c.state ≠ .recording ∨ c.former ≠ .mark start last fall) →
      exec .stuckMark s = .next s)

/-! ### Notification Controller -/

/-- Deliverability, the pick and ATTN (R157, R161, R162). -/
def Obligations.PickIsMostUrgentDeliverable : Prop :=
  ∀ s : State,
    (∀ n, s.deliverable n = true ↔ s.sourcePending n = true ∧ (s.setting n).masked = false
      ∧ (s.setting n).priority.val < s.notices.threshold.val ∧ (∀ e ∈ s.notices.inService, e.source ≠ n)
      ∧ ∀ e ∈ s.notices.inService, (s.setting n).priority < e.priority)
    ∧ (∀ z, s.sourcePending (.zone z) = true ↔ (s.zone z).completions ≠ [])
    ∧ (s.sourcePending .engine = true ↔ s.notices.engineLatch ≠ none)
    ∧ (s.sourcePending .fault = true ↔ s.notices.faultLatch ≠ [])
    ∧ (s.sourcePending .link = true ↔ s.notices.linkLatch ≠ ⟨false, false, false, false⟩)
    ∧ (s.sourcePending .capture = true ↔ s.notices.captureLatch ≠ none)
    ∧ (s.sourcePending .trigger = true ↔ ∃ l : Fin 4, s.notices.triggerLatch[l] ≠ none)
    ∧ (s.pick = none ↔ ∀ n, s.deliverable n = false)
    ∧ (∀ n, s.pick = some n ↔ s.deliverable n = true ∧ ∀ m, s.deliverable m = true →
        (s.setting n).priority < (s.setting m).priority
        ∨ (s.setting n).priority = (s.setting m).priority ∧ n.number ≤ m.number)
    ∧ (s.attn = true ↔ s.assertedReset = none ∧ ∃ n, s.deliverable n = true)

/-- NOTICE FETCH (R163 to R165): the pick or the named source is delivered; what the notice carries, what its delivery
clears, and whether the source is claimed. -/
def Obligations.NoticeFetchDelivers : Prop :=
  ∀ (q : Byte) (s : State), s.ready →
    (s.pick = none → exec (.noticeFetch q none) s = .next (s.replying 0x48#8 q .nothingPending .none))
    ∧ (∀ b : Byte, 13 ≤ b.toNat → exec (.noticeFetch q (some b)) s = .next (s.replying 0x48#8 q .badField .none))
    ∧ (∀ n, s.sourcePending n = false ∨ s.inService n = true → exec (.noticeFetch q (some (byteOf n.number))) s =
      .next (s.replying 0x48#8 q .nothingPending (.noticeNone (s.sourcePending n) (s.inService n))))
    ∧ ∀ n request claimed,
      (request = none ∧ s.pick = some n ∧ claimed = true
        ∨ request = some (byteOf n.number) ∧ s.sourcePending n = true ∧ s.inService n = false
          ∧ claimed = decide (∀ e ∈ s.notices.inService, (s.setting n).priority < e.priority)) →
      ∃ (u : State) (body : NoticeBody) (service : List ServiceEntry),
        service = (if claimed = true then s.notices.inService ++ [⟨n, (s.setting n).priority⟩] else s.notices.inService)
        ∧ exec (.noticeFetch q request) s =
          .next ({ u with notices := { u.notices with inService := service } }.replying 0x48#8 q .ok
            (.notice { source := n, claimed := if claimed = true then some (s.setting n).priority else none
                       inService := service.length } body))
        ∧ (n = .engine → u = { s with notices := { s.notices with engineLatch := none } }
            ∧ ∃ cause, s.notices.engineLatch = some cause ∧ body = .engine cause)
        ∧ (n = .fault → u = { s with notices := { s.notices with faultLatch := [] } }
            ∧ ∃ pairs, body = .fault pairs ∧ (∀ p, p ∈ pairs ↔ p ∈ s.notices.faultLatch)
              ∧ pairs.Pairwise fun x y => x.1 < y.1 ∨ x.1 = y.1 ∧ x.2 = .openLoad ∧ y.2 = .overload)
        ∧ (n = .link → u = { s with notices := { s.notices with linkLatch := ⟨false, false, false, false⟩ } }
            ∧ body = .link s.notices.linkLatch)
        ∧ (n = .capture → u = { s with notices := { s.notices with captureLatch := none } }
            ∧ ∃ copy, s.notices.captureLatch = some copy ∧ body = .capture copy)
        ∧ (n = .trigger → u = { s with notices := { s.notices with triggerLatch := Vector.replicate 4 none } }
            ∧ body = .trigger s.notices.triggerLatch)
        ∧ ∀ z, n = .zone z → ∃ record rest, (s.zone z).completions = record :: rest
          ∧ u = { s with zones := s.zones.set z { s.zone z with completions := rest } }.considerActivation z
          ∧ body = .zone record rest.length (u.zone z).state

/-- NOTICE PEEK, NOTICE ACK and NOTICE SETUP (R167 to R169; log 30 for a list that is not strictly decreasing). -/
def Obligations.NoticePeekAckSetup : Prop :=
  ∀ (q : Byte) (s : State), s.ready →
    (∃ sources, exec (.noticePeek q) s = .next (s.replying 0x49#8 q .ok
        (.noticePeek sources s.notices.inService s.pick s.notices.threshold s.attn))
      ∧ sources.length = 13 ∧ ∀ n : Source, sources[n.number.val]? = some
        { pending := s.sourcePending n, masked := (s.setting n).masked, priority := (s.setting n).priority
          inService := s.inService n })
    ∧ (∀ b : Byte, 13 ≤ b.toNat → exec (.noticeAck q (some b)) s = .next (s.replying 0x4A#8 q .badField .none))
    ∧ (∀ n, (∀ e ∈ s.notices.inService, e.source ≠ n) →
      exec (.noticeAck q (some (byteOf n.number))) s = .next (s.replying 0x4A#8 q .notInService .none))
    ∧ (s.notices.inService = [] → exec (.noticeAck q none) s = .next (s.replying 0x4A#8 q .notInService .none))
    ∧ (∀ request e before behind, s.notices.inService = before ++ e :: behind →
        (request = some (byteOf e.source.number) ∧ (∀ f ∈ before, f.source ≠ e.source)
          ∨ request = none ∧ behind = [] ∧ InServiceLaw s) → ∃ t,
        t = { s with notices := { s.notices with inService := before ++ behind } }
        ∧ exec (.noticeAck q request) s =
          .next (t.replying 0x4A#8 q .ok (.noticeAck e (before ++ behind).length t.pick t.attn)))
    ∧ ∀ threshold (entries : List SourceEntry), entries.length ≤ 13 →
      ((9 ≤ threshold.toNat ∧ threshold ≠ 0xFF#8) ∨ (∃ e ∈ entries, ¬ EntryDefined e)
          ∨ ¬ (entries.map SourceEntry.source).Nodup →
        exec (.noticeSetup q threshold entries) s = .next (s.replying 0x4B#8 q .badField .none))
      ∧ (threshold.toNat ≤ 8 ∨ threshold = 0xFF#8 → (∀ e ∈ entries, EntryDefined e) →
          (entries.map SourceEntry.source).Nodup → ∃ t : State,
        exec (.noticeSetup q threshold entries) s =
          .next (t.replying 0x4B#8 q .ok (.noticeSetup t.notices.threshold t.notices.settings t.pick t.attn))
        ∧ t = { s with notices := { s.notices with threshold := t.notices.threshold, settings := t.notices.settings } }
        ∧ (threshold.toNat ≤ 8 → t.notices.threshold.val = threshold.toNat)
        ∧ (threshold = 0xFF#8 → t.notices.threshold = s.notices.threshold)
        ∧ ∀ n, (∀ e ∈ entries, e.source = byteOf n.number → t.setting n = settingAfter (s.setting n) e)
          ∧ ((∀ e ∈ entries, e.source ≠ byteOf n.number) → t.setting n = s.setting n))

/-! ### The laws that every step keeps -/

/-- HEADLINE. The in-service list keeps its order and its sources apart (R160). -/
def Obligations.StepKeepsInServiceOrder : Prop :=
  ∀ s t : State, InServiceLaw s → step s = .next t → InServiceLaw t

/-- HEADLINE. No queue, completion list or request buffer outgrows its capacity, and the tags of a zone's live jobs stay
distinct (R23, R25, R176). -/
def Obligations.StepKeepsCapacitiesAndTags : Prop :=
  ∀ s t : State, CapacityLaw s → TagLaw s → step s = .next t → CapacityLaw t ∧ TagLaw t

/-- HEADLINE. Waiting list, group locks and carrier bindings stay exactly what the zones' states say (R50, R51, R65). -/
def Obligations.StepKeepsSharedResources : Prop :=
  ∀ s t : State, WaitingLaw s → LockLaw s → PoolLaw s → step s = .next t → WaitingLaw t ∧ LockLaw t ∧ PoolLaw t

/-- HEADLINE. Used cells stay the sum over the installed templates, and use counts stay the number of claims (R6, R7). -/
def Obligations.StepKeepsCellsAndUseCounts : Prop :=
  ∀ s t : State, CellLaw s → UseCountLaw s → step s = .next t → CellLaw t ∧ UseCountLaw t

/-- HEADLINE. The capture list stays within the armed maximum, and short of it while the session runs (R141, R148). -/
def Obligations.StepKeepsCaptureWithinMaximum : Prop :=
  ∀ s t : State, CaptureLaw s → step s = .next t → CaptureLaw t

end
end

