-- ==== Sys2Proof/Laws/State.lean ====
section
/-!
SUPPORT. What each named update of State leaves alone, one lemma per field and update, and what reading a zone, a slot, a
generator or a line gives after an update. No later proof unfolds a record update.
-/
namespace Sys2Proof

/-! ### The map over a vector -/

@[simp] theorem mapVector_getElem {α β : Type} {n : Nat} (f : α → β) (v : Vector α n) (i : Nat) (h : i < n) :
    (mapVector f v)[i] = f v[i] := by simp [mapVector]

@[simp] theorem mapVector_toList {α β : Type} {n : Nat} (f : α → β) (v : Vector α n) :
    (mapVector f v).toList = v.toList.map f := by simp [mapVector]

theorem mapVector_id {α : Type} {n : Nat} (v : Vector α n) : mapVector (fun x => x) v = v := by
  apply Vector.ext; intro i h; simp

@[simp] theorem vector_set_self {α : Type} {n : Nat} (v : Vector α n) (i : Nat) (h : i < n) : v.set i v[i] = v := by
  apply Vector.ext; intro j hj
  by_cases hij : i = j
  · subst hij; simp
  · simp

@[simp] theorem vector_set_set {α : Type} {n : Nat} (v : Vector α n) (i : Nat) (h : i < n) (a b : α) :
    (v.set i a).set i b = v.set i b := by
  apply Vector.ext; intro j hj
  by_cases hij : i = j
  · subst hij; simp
  · simp [hij]

namespace Machine

/-! ### Fields that an update leaves alone -/

@[simp] theorem State.setZone_ticks (s : State) (z : Fin 8) (zn : Zone) : (s.setZone z zn).ticks = s.ticks := rfl
@[simp] theorem State.setZone_assertedReset (s : State) (z : Fin 8) (zn : Zone) : (s.setZone z zn).assertedReset = s.assertedReset := rfl
@[simp] theorem State.setZone_supply (s : State) (z : Fin 8) (zn : Zone) : (s.setZone z zn).supply = s.supply := rfl
@[simp] theorem State.setZone_pins (s : State) (z : Fin 8) (zn : Zone) : (s.setZone z zn).pins = s.pins := rfl
@[simp] theorem State.setZone_port (s : State) (z : Fin 8) (zn : Zone) : (s.setZone z zn).port = s.port := rfl
@[simp] theorem State.setZone_library (s : State) (z : Fin 8) (zn : Zone) : (s.setZone z zn).library = s.library := rfl
@[simp] theorem State.setZone_arbiter (s : State) (z : Fin 8) (zn : Zone) : (s.setZone z zn).arbiter = s.arbiter := rfl
@[simp] theorem State.setZone_generators (s : State) (z : Fin 8) (zn : Zone) : (s.setZone z zn).generators = s.generators := rfl
@[simp] theorem State.setZone_lines (s : State) (z : Fin 8) (zn : Zone) : (s.setZone z zn).lines = s.lines := rfl
@[simp] theorem State.setZone_capture (s : State) (z : Fin 8) (zn : Zone) : (s.setZone z zn).capture = s.capture := rfl
@[simp] theorem State.setZone_notices (s : State) (z : Fin 8) (zn : Zone) : (s.setZone z zn).notices = s.notices := rfl
@[simp] theorem State.setZone_freeCount (s : State) (z : Fin 8) (zn : Zone) : (s.setZone z zn).freeCount = s.freeCount := rfl
@[simp] theorem State.setZone_pending (s : State) (z : Fin 8) (zn : Zone) : (s.setZone z zn).pending = s.pending := rfl

@[simp] theorem State.updZone_ticks (s : State) (z : Fin 8) (f : Zone → Zone) : (s.updZone z f).ticks = s.ticks := rfl
@[simp] theorem State.updZone_assertedReset (s : State) (z : Fin 8) (f : Zone → Zone) : (s.updZone z f).assertedReset = s.assertedReset := rfl
@[simp] theorem State.updZone_supply (s : State) (z : Fin 8) (f : Zone → Zone) : (s.updZone z f).supply = s.supply := rfl
@[simp] theorem State.updZone_pins (s : State) (z : Fin 8) (f : Zone → Zone) : (s.updZone z f).pins = s.pins := rfl
@[simp] theorem State.updZone_port (s : State) (z : Fin 8) (f : Zone → Zone) : (s.updZone z f).port = s.port := rfl
@[simp] theorem State.updZone_library (s : State) (z : Fin 8) (f : Zone → Zone) : (s.updZone z f).library = s.library := rfl
@[simp] theorem State.updZone_arbiter (s : State) (z : Fin 8) (f : Zone → Zone) : (s.updZone z f).arbiter = s.arbiter := rfl
@[simp] theorem State.updZone_generators (s : State) (z : Fin 8) (f : Zone → Zone) : (s.updZone z f).generators = s.generators := rfl
@[simp] theorem State.updZone_lines (s : State) (z : Fin 8) (f : Zone → Zone) : (s.updZone z f).lines = s.lines := rfl
@[simp] theorem State.updZone_capture (s : State) (z : Fin 8) (f : Zone → Zone) : (s.updZone z f).capture = s.capture := rfl
@[simp] theorem State.updZone_notices (s : State) (z : Fin 8) (f : Zone → Zone) : (s.updZone z f).notices = s.notices := rfl
@[simp] theorem State.updZone_freeCount (s : State) (z : Fin 8) (f : Zone → Zone) : (s.updZone z f).freeCount = s.freeCount := rfl
@[simp] theorem State.updZone_pending (s : State) (z : Fin 8) (f : Zone → Zone) : (s.updZone z f).pending = s.pending := rfl

@[simp] theorem State.updActive_ticks (s : State) (z : Fin 8) (f : ActiveJob → ActiveJob) : (s.updActive z f).ticks = s.ticks := rfl
@[simp] theorem State.updActive_assertedReset (s : State) (z : Fin 8) (f : ActiveJob → ActiveJob) : (s.updActive z f).assertedReset = s.assertedReset := rfl
@[simp] theorem State.updActive_supply (s : State) (z : Fin 8) (f : ActiveJob → ActiveJob) : (s.updActive z f).supply = s.supply := rfl
@[simp] theorem State.updActive_pins (s : State) (z : Fin 8) (f : ActiveJob → ActiveJob) : (s.updActive z f).pins = s.pins := rfl
@[simp] theorem State.updActive_port (s : State) (z : Fin 8) (f : ActiveJob → ActiveJob) : (s.updActive z f).port = s.port := rfl
@[simp] theorem State.updActive_library (s : State) (z : Fin 8) (f : ActiveJob → ActiveJob) : (s.updActive z f).library = s.library := rfl
@[simp] theorem State.updActive_arbiter (s : State) (z : Fin 8) (f : ActiveJob → ActiveJob) : (s.updActive z f).arbiter = s.arbiter := rfl
@[simp] theorem State.updActive_generators (s : State) (z : Fin 8) (f : ActiveJob → ActiveJob) : (s.updActive z f).generators = s.generators := rfl
@[simp] theorem State.updActive_lines (s : State) (z : Fin 8) (f : ActiveJob → ActiveJob) : (s.updActive z f).lines = s.lines := rfl
@[simp] theorem State.updActive_capture (s : State) (z : Fin 8) (f : ActiveJob → ActiveJob) : (s.updActive z f).capture = s.capture := rfl
@[simp] theorem State.updActive_notices (s : State) (z : Fin 8) (f : ActiveJob → ActiveJob) : (s.updActive z f).notices = s.notices := rfl
@[simp] theorem State.updActive_freeCount (s : State) (z : Fin 8) (f : ActiveJob → ActiveJob) : (s.updActive z f).freeCount = s.freeCount := rfl
@[simp] theorem State.updActive_pending (s : State) (z : Fin 8) (f : ActiveJob → ActiveJob) : (s.updActive z f).pending = s.pending := rfl

@[simp] theorem State.setPlay_ticks (s : State) (z : Fin 8) (p : PlayState) : (s.setPlay z p).ticks = s.ticks := rfl
@[simp] theorem State.setPlay_assertedReset (s : State) (z : Fin 8) (p : PlayState) : (s.setPlay z p).assertedReset = s.assertedReset := rfl
@[simp] theorem State.setPlay_supply (s : State) (z : Fin 8) (p : PlayState) : (s.setPlay z p).supply = s.supply := rfl
@[simp] theorem State.setPlay_pins (s : State) (z : Fin 8) (p : PlayState) : (s.setPlay z p).pins = s.pins := rfl
@[simp] theorem State.setPlay_port (s : State) (z : Fin 8) (p : PlayState) : (s.setPlay z p).port = s.port := rfl
@[simp] theorem State.setPlay_library (s : State) (z : Fin 8) (p : PlayState) : (s.setPlay z p).library = s.library := rfl
@[simp] theorem State.setPlay_arbiter (s : State) (z : Fin 8) (p : PlayState) : (s.setPlay z p).arbiter = s.arbiter := rfl
@[simp] theorem State.setPlay_generators (s : State) (z : Fin 8) (p : PlayState) : (s.setPlay z p).generators = s.generators := rfl
@[simp] theorem State.setPlay_lines (s : State) (z : Fin 8) (p : PlayState) : (s.setPlay z p).lines = s.lines := rfl
@[simp] theorem State.setPlay_capture (s : State) (z : Fin 8) (p : PlayState) : (s.setPlay z p).capture = s.capture := rfl
@[simp] theorem State.setPlay_notices (s : State) (z : Fin 8) (p : PlayState) : (s.setPlay z p).notices = s.notices := rfl
@[simp] theorem State.setPlay_freeCount (s : State) (z : Fin 8) (p : PlayState) : (s.setPlay z p).freeCount = s.freeCount := rfl
@[simp] theorem State.setPlay_pending (s : State) (z : Fin 8) (p : PlayState) : (s.setPlay z p).pending = s.pending := rfl

@[simp] theorem State.setSlot_ticks (s : State) (i : Fin 64) (sl : Slot) : (s.setSlot i sl).ticks = s.ticks := rfl
@[simp] theorem State.setSlot_assertedReset (s : State) (i : Fin 64) (sl : Slot) : (s.setSlot i sl).assertedReset = s.assertedReset := rfl
@[simp] theorem State.setSlot_supply (s : State) (i : Fin 64) (sl : Slot) : (s.setSlot i sl).supply = s.supply := rfl
@[simp] theorem State.setSlot_pins (s : State) (i : Fin 64) (sl : Slot) : (s.setSlot i sl).pins = s.pins := rfl
@[simp] theorem State.setSlot_port (s : State) (i : Fin 64) (sl : Slot) : (s.setSlot i sl).port = s.port := rfl
@[simp] theorem State.setSlot_zones (s : State) (i : Fin 64) (sl : Slot) : (s.setSlot i sl).zones = s.zones := rfl
@[simp] theorem State.setSlot_arbiter (s : State) (i : Fin 64) (sl : Slot) : (s.setSlot i sl).arbiter = s.arbiter := rfl
@[simp] theorem State.setSlot_generators (s : State) (i : Fin 64) (sl : Slot) : (s.setSlot i sl).generators = s.generators := rfl
@[simp] theorem State.setSlot_lines (s : State) (i : Fin 64) (sl : Slot) : (s.setSlot i sl).lines = s.lines := rfl
@[simp] theorem State.setSlot_capture (s : State) (i : Fin 64) (sl : Slot) : (s.setSlot i sl).capture = s.capture := rfl
@[simp] theorem State.setSlot_notices (s : State) (i : Fin 64) (sl : Slot) : (s.setSlot i sl).notices = s.notices := rfl
@[simp] theorem State.setSlot_freeCount (s : State) (i : Fin 64) (sl : Slot) : (s.setSlot i sl).freeCount = s.freeCount := rfl
@[simp] theorem State.setSlot_pending (s : State) (i : Fin 64) (sl : Slot) : (s.setSlot i sl).pending = s.pending := rfl

@[simp] theorem State.addUse_ticks (s : State) (i : Fin 64) : (s.addUse i).ticks = s.ticks := rfl
@[simp] theorem State.addUse_assertedReset (s : State) (i : Fin 64) : (s.addUse i).assertedReset = s.assertedReset := rfl
@[simp] theorem State.addUse_supply (s : State) (i : Fin 64) : (s.addUse i).supply = s.supply := rfl
@[simp] theorem State.addUse_pins (s : State) (i : Fin 64) : (s.addUse i).pins = s.pins := rfl
@[simp] theorem State.addUse_port (s : State) (i : Fin 64) : (s.addUse i).port = s.port := rfl
@[simp] theorem State.addUse_zones (s : State) (i : Fin 64) : (s.addUse i).zones = s.zones := rfl
@[simp] theorem State.addUse_arbiter (s : State) (i : Fin 64) : (s.addUse i).arbiter = s.arbiter := rfl
@[simp] theorem State.addUse_generators (s : State) (i : Fin 64) : (s.addUse i).generators = s.generators := rfl
@[simp] theorem State.addUse_lines (s : State) (i : Fin 64) : (s.addUse i).lines = s.lines := rfl
@[simp] theorem State.addUse_capture (s : State) (i : Fin 64) : (s.addUse i).capture = s.capture := rfl
@[simp] theorem State.addUse_notices (s : State) (i : Fin 64) : (s.addUse i).notices = s.notices := rfl
@[simp] theorem State.addUse_freeCount (s : State) (i : Fin 64) : (s.addUse i).freeCount = s.freeCount := rfl
@[simp] theorem State.addUse_pending (s : State) (i : Fin 64) : (s.addUse i).pending = s.pending := rfl

@[simp] theorem State.dropUse_ticks (s : State) (i : Fin 64) : (s.dropUse i).ticks = s.ticks := rfl
@[simp] theorem State.dropUse_assertedReset (s : State) (i : Fin 64) : (s.dropUse i).assertedReset = s.assertedReset := rfl
@[simp] theorem State.dropUse_supply (s : State) (i : Fin 64) : (s.dropUse i).supply = s.supply := rfl
@[simp] theorem State.dropUse_pins (s : State) (i : Fin 64) : (s.dropUse i).pins = s.pins := rfl
@[simp] theorem State.dropUse_port (s : State) (i : Fin 64) : (s.dropUse i).port = s.port := rfl
@[simp] theorem State.dropUse_zones (s : State) (i : Fin 64) : (s.dropUse i).zones = s.zones := rfl
@[simp] theorem State.dropUse_arbiter (s : State) (i : Fin 64) : (s.dropUse i).arbiter = s.arbiter := rfl
@[simp] theorem State.dropUse_generators (s : State) (i : Fin 64) : (s.dropUse i).generators = s.generators := rfl
@[simp] theorem State.dropUse_lines (s : State) (i : Fin 64) : (s.dropUse i).lines = s.lines := rfl
@[simp] theorem State.dropUse_capture (s : State) (i : Fin 64) : (s.dropUse i).capture = s.capture := rfl
@[simp] theorem State.dropUse_notices (s : State) (i : Fin 64) : (s.dropUse i).notices = s.notices := rfl
@[simp] theorem State.dropUse_freeCount (s : State) (i : Fin 64) : (s.dropUse i).freeCount = s.freeCount := rfl
@[simp] theorem State.dropUse_pending (s : State) (i : Fin 64) : (s.dropUse i).pending = s.pending := rfl

@[simp] theorem State.clearToggles_ticks (s : State) (i : Fin 64) : (s.clearToggles i).ticks = s.ticks := rfl
@[simp] theorem State.clearToggles_assertedReset (s : State) (i : Fin 64) : (s.clearToggles i).assertedReset = s.assertedReset := rfl
@[simp] theorem State.clearToggles_supply (s : State) (i : Fin 64) : (s.clearToggles i).supply = s.supply := rfl
@[simp] theorem State.clearToggles_pins (s : State) (i : Fin 64) : (s.clearToggles i).pins = s.pins := rfl
@[simp] theorem State.clearToggles_port (s : State) (i : Fin 64) : (s.clearToggles i).port = s.port := rfl
@[simp] theorem State.clearToggles_library (s : State) (i : Fin 64) : (s.clearToggles i).library = s.library := rfl
@[simp] theorem State.clearToggles_arbiter (s : State) (i : Fin 64) : (s.clearToggles i).arbiter = s.arbiter := rfl
@[simp] theorem State.clearToggles_generators (s : State) (i : Fin 64) : (s.clearToggles i).generators = s.generators := rfl
@[simp] theorem State.clearToggles_lines (s : State) (i : Fin 64) : (s.clearToggles i).lines = s.lines := rfl
@[simp] theorem State.clearToggles_capture (s : State) (i : Fin 64) : (s.clearToggles i).capture = s.capture := rfl
@[simp] theorem State.clearToggles_notices (s : State) (i : Fin 64) : (s.clearToggles i).notices = s.notices := rfl
@[simp] theorem State.clearToggles_freeCount (s : State) (i : Fin 64) : (s.clearToggles i).freeCount = s.freeCount := rfl
@[simp] theorem State.clearToggles_pending (s : State) (i : Fin 64) : (s.clearToggles i).pending = s.pending := rfl

@[simp] theorem State.setGenerator_ticks (s : State) (g : Fin 4) (gen : Generator) : (s.setGenerator g gen).ticks = s.ticks := rfl
@[simp] theorem State.setGenerator_assertedReset (s : State) (g : Fin 4) (gen : Generator) : (s.setGenerator g gen).assertedReset = s.assertedReset := rfl
@[simp] theorem State.setGenerator_supply (s : State) (g : Fin 4) (gen : Generator) : (s.setGenerator g gen).supply = s.supply := rfl
@[simp] theorem State.setGenerator_pins (s : State) (g : Fin 4) (gen : Generator) : (s.setGenerator g gen).pins = s.pins := rfl
@[simp] theorem State.setGenerator_port (s : State) (g : Fin 4) (gen : Generator) : (s.setGenerator g gen).port = s.port := rfl
@[simp] theorem State.setGenerator_library (s : State) (g : Fin 4) (gen : Generator) : (s.setGenerator g gen).library = s.library := rfl
@[simp] theorem State.setGenerator_zones (s : State) (g : Fin 4) (gen : Generator) : (s.setGenerator g gen).zones = s.zones := rfl
@[simp] theorem State.setGenerator_arbiter (s : State) (g : Fin 4) (gen : Generator) : (s.setGenerator g gen).arbiter = s.arbiter := rfl
@[simp] theorem State.setGenerator_lines (s : State) (g : Fin 4) (gen : Generator) : (s.setGenerator g gen).lines = s.lines := rfl
@[simp] theorem State.setGenerator_capture (s : State) (g : Fin 4) (gen : Generator) : (s.setGenerator g gen).capture = s.capture := rfl
@[simp] theorem State.setGenerator_notices (s : State) (g : Fin 4) (gen : Generator) : (s.setGenerator g gen).notices = s.notices := rfl
@[simp] theorem State.setGenerator_freeCount (s : State) (g : Fin 4) (gen : Generator) : (s.setGenerator g gen).freeCount = s.freeCount := rfl
@[simp] theorem State.setGenerator_pending (s : State) (g : Fin 4) (gen : Generator) : (s.setGenerator g gen).pending = s.pending := rfl

@[simp] theorem State.setLine_ticks (s : State) (n : Fin 4) (l : Line) : (s.setLine n l).ticks = s.ticks := rfl
@[simp] theorem State.setLine_assertedReset (s : State) (n : Fin 4) (l : Line) : (s.setLine n l).assertedReset = s.assertedReset := rfl
@[simp] theorem State.setLine_supply (s : State) (n : Fin 4) (l : Line) : (s.setLine n l).supply = s.supply := rfl
@[simp] theorem State.setLine_pins (s : State) (n : Fin 4) (l : Line) : (s.setLine n l).pins = s.pins := rfl
@[simp] theorem State.setLine_port (s : State) (n : Fin 4) (l : Line) : (s.setLine n l).port = s.port := rfl
@[simp] theorem State.setLine_library (s : State) (n : Fin 4) (l : Line) : (s.setLine n l).library = s.library := rfl
@[simp] theorem State.setLine_zones (s : State) (n : Fin 4) (l : Line) : (s.setLine n l).zones = s.zones := rfl
@[simp] theorem State.setLine_arbiter (s : State) (n : Fin 4) (l : Line) : (s.setLine n l).arbiter = s.arbiter := rfl
@[simp] theorem State.setLine_generators (s : State) (n : Fin 4) (l : Line) : (s.setLine n l).generators = s.generators := rfl
@[simp] theorem State.setLine_capture (s : State) (n : Fin 4) (l : Line) : (s.setLine n l).capture = s.capture := rfl
@[simp] theorem State.setLine_notices (s : State) (n : Fin 4) (l : Line) : (s.setLine n l).notices = s.notices := rfl
@[simp] theorem State.setLine_freeCount (s : State) (n : Fin 4) (l : Line) : (s.setLine n l).freeCount = s.freeCount := rfl
@[simp] theorem State.setLine_pending (s : State) (n : Fin 4) (l : Line) : (s.setLine n l).pending = s.pending := rfl

@[simp] theorem State.updLine_ticks (s : State) (n : Fin 4) (f : Line → Line) : (s.updLine n f).ticks = s.ticks := rfl
@[simp] theorem State.updLine_assertedReset (s : State) (n : Fin 4) (f : Line → Line) : (s.updLine n f).assertedReset = s.assertedReset := rfl
@[simp] theorem State.updLine_supply (s : State) (n : Fin 4) (f : Line → Line) : (s.updLine n f).supply = s.supply := rfl
@[simp] theorem State.updLine_pins (s : State) (n : Fin 4) (f : Line → Line) : (s.updLine n f).pins = s.pins := rfl
@[simp] theorem State.updLine_port (s : State) (n : Fin 4) (f : Line → Line) : (s.updLine n f).port = s.port := rfl
@[simp] theorem State.updLine_library (s : State) (n : Fin 4) (f : Line → Line) : (s.updLine n f).library = s.library := rfl
@[simp] theorem State.updLine_zones (s : State) (n : Fin 4) (f : Line → Line) : (s.updLine n f).zones = s.zones := rfl
@[simp] theorem State.updLine_arbiter (s : State) (n : Fin 4) (f : Line → Line) : (s.updLine n f).arbiter = s.arbiter := rfl
@[simp] theorem State.updLine_generators (s : State) (n : Fin 4) (f : Line → Line) : (s.updLine n f).generators = s.generators := rfl
@[simp] theorem State.updLine_capture (s : State) (n : Fin 4) (f : Line → Line) : (s.updLine n f).capture = s.capture := rfl
@[simp] theorem State.updLine_notices (s : State) (n : Fin 4) (f : Line → Line) : (s.updLine n f).notices = s.notices := rfl
@[simp] theorem State.updLine_freeCount (s : State) (n : Fin 4) (f : Line → Line) : (s.updLine n f).freeCount = s.freeCount := rfl
@[simp] theorem State.updLine_pending (s : State) (n : Fin 4) (f : Line → Line) : (s.updLine n f).pending = s.pending := rfl

@[simp] theorem State.lineTo_ticks (s : State) (n : Fin 4) (st : LineState) : (s.lineTo n st).ticks = s.ticks := rfl
@[simp] theorem State.lineTo_assertedReset (s : State) (n : Fin 4) (st : LineState) : (s.lineTo n st).assertedReset = s.assertedReset := rfl
@[simp] theorem State.lineTo_supply (s : State) (n : Fin 4) (st : LineState) : (s.lineTo n st).supply = s.supply := rfl
@[simp] theorem State.lineTo_pins (s : State) (n : Fin 4) (st : LineState) : (s.lineTo n st).pins = s.pins := rfl
@[simp] theorem State.lineTo_port (s : State) (n : Fin 4) (st : LineState) : (s.lineTo n st).port = s.port := rfl
@[simp] theorem State.lineTo_library (s : State) (n : Fin 4) (st : LineState) : (s.lineTo n st).library = s.library := rfl
@[simp] theorem State.lineTo_zones (s : State) (n : Fin 4) (st : LineState) : (s.lineTo n st).zones = s.zones := rfl
@[simp] theorem State.lineTo_arbiter (s : State) (n : Fin 4) (st : LineState) : (s.lineTo n st).arbiter = s.arbiter := rfl
@[simp] theorem State.lineTo_generators (s : State) (n : Fin 4) (st : LineState) : (s.lineTo n st).generators = s.generators := rfl
@[simp] theorem State.lineTo_capture (s : State) (n : Fin 4) (st : LineState) : (s.lineTo n st).capture = s.capture := rfl
@[simp] theorem State.lineTo_notices (s : State) (n : Fin 4) (st : LineState) : (s.lineTo n st).notices = s.notices := rfl
@[simp] theorem State.lineTo_freeCount (s : State) (n : Fin 4) (st : LineState) : (s.lineTo n st).freeCount = s.freeCount := rfl
@[simp] theorem State.lineTo_pending (s : State) (n : Fin 4) (st : LineState) : (s.lineTo n st).pending = s.pending := rfl

@[simp] theorem State.advance_assertedReset (s : State) (t : Nat) : (s.advance t).assertedReset = s.assertedReset := rfl
@[simp] theorem State.advance_supply (s : State) (t : Nat) : (s.advance t).supply = s.supply := rfl
@[simp] theorem State.advance_pins (s : State) (t : Nat) : (s.advance t).pins = s.pins := rfl
@[simp] theorem State.advance_port (s : State) (t : Nat) : (s.advance t).port = s.port := rfl
@[simp] theorem State.advance_library (s : State) (t : Nat) : (s.advance t).library = s.library := rfl
@[simp] theorem State.advance_zones (s : State) (t : Nat) : (s.advance t).zones = s.zones := rfl
@[simp] theorem State.advance_arbiter (s : State) (t : Nat) : (s.advance t).arbiter = s.arbiter := rfl
@[simp] theorem State.advance_generators (s : State) (t : Nat) : (s.advance t).generators = s.generators := rfl
@[simp] theorem State.advance_lines (s : State) (t : Nat) : (s.advance t).lines = s.lines := rfl
@[simp] theorem State.advance_capture (s : State) (t : Nat) : (s.advance t).capture = s.capture := rfl
@[simp] theorem State.advance_notices (s : State) (t : Nat) : (s.advance t).notices = s.notices := rfl
@[simp] theorem State.advance_freeCount (s : State) (t : Nat) : (s.advance t).freeCount = s.freeCount := rfl
@[simp] theorem State.advance_pending (s : State) (t : Nat) : (s.advance t).pending = s.pending := rfl

@[simp] theorem State.latchFault_ticks (s : State) (z : Fin 8) (k : FaultKind) : (s.latchFault z k).ticks = s.ticks := rfl
@[simp] theorem State.latchFault_assertedReset (s : State) (z : Fin 8) (k : FaultKind) : (s.latchFault z k).assertedReset = s.assertedReset := rfl
@[simp] theorem State.latchFault_supply (s : State) (z : Fin 8) (k : FaultKind) : (s.latchFault z k).supply = s.supply := rfl
@[simp] theorem State.latchFault_pins (s : State) (z : Fin 8) (k : FaultKind) : (s.latchFault z k).pins = s.pins := rfl
@[simp] theorem State.latchFault_port (s : State) (z : Fin 8) (k : FaultKind) : (s.latchFault z k).port = s.port := rfl
@[simp] theorem State.latchFault_library (s : State) (z : Fin 8) (k : FaultKind) : (s.latchFault z k).library = s.library := rfl
@[simp] theorem State.latchFault_zones (s : State) (z : Fin 8) (k : FaultKind) : (s.latchFault z k).zones = s.zones := rfl
@[simp] theorem State.latchFault_arbiter (s : State) (z : Fin 8) (k : FaultKind) : (s.latchFault z k).arbiter = s.arbiter := rfl
@[simp] theorem State.latchFault_generators (s : State) (z : Fin 8) (k : FaultKind) : (s.latchFault z k).generators = s.generators := rfl
@[simp] theorem State.latchFault_lines (s : State) (z : Fin 8) (k : FaultKind) : (s.latchFault z k).lines = s.lines := rfl
@[simp] theorem State.latchFault_capture (s : State) (z : Fin 8) (k : FaultKind) : (s.latchFault z k).capture = s.capture := rfl
@[simp] theorem State.latchFault_freeCount (s : State) (z : Fin 8) (k : FaultKind) : (s.latchFault z k).freeCount = s.freeCount := rfl
@[simp] theorem State.latchFault_pending (s : State) (z : Fin 8) (k : FaultKind) : (s.latchFault z k).pending = s.pending := rfl

@[simp] theorem State.latchLink_ticks (s : State) (c : LinkCause) : (s.latchLink c).ticks = s.ticks := rfl
@[simp] theorem State.latchLink_assertedReset (s : State) (c : LinkCause) : (s.latchLink c).assertedReset = s.assertedReset := rfl
@[simp] theorem State.latchLink_supply (s : State) (c : LinkCause) : (s.latchLink c).supply = s.supply := rfl
@[simp] theorem State.latchLink_pins (s : State) (c : LinkCause) : (s.latchLink c).pins = s.pins := rfl
@[simp] theorem State.latchLink_port (s : State) (c : LinkCause) : (s.latchLink c).port = s.port := rfl
@[simp] theorem State.latchLink_library (s : State) (c : LinkCause) : (s.latchLink c).library = s.library := rfl
@[simp] theorem State.latchLink_zones (s : State) (c : LinkCause) : (s.latchLink c).zones = s.zones := rfl
@[simp] theorem State.latchLink_arbiter (s : State) (c : LinkCause) : (s.latchLink c).arbiter = s.arbiter := rfl
@[simp] theorem State.latchLink_generators (s : State) (c : LinkCause) : (s.latchLink c).generators = s.generators := rfl
@[simp] theorem State.latchLink_lines (s : State) (c : LinkCause) : (s.latchLink c).lines = s.lines := rfl
@[simp] theorem State.latchLink_capture (s : State) (c : LinkCause) : (s.latchLink c).capture = s.capture := rfl
@[simp] theorem State.latchLink_freeCount (s : State) (c : LinkCause) : (s.latchLink c).freeCount = s.freeCount := rfl
@[simp] theorem State.latchLink_pending (s : State) (c : LinkCause) : (s.latchLink c).pending = s.pending := rfl

@[simp] theorem State.latchCapture_ticks (s : State) (c : CaptureOutcome) : (s.latchCapture c).ticks = s.ticks := rfl
@[simp] theorem State.latchCapture_assertedReset (s : State) (c : CaptureOutcome) : (s.latchCapture c).assertedReset = s.assertedReset := rfl
@[simp] theorem State.latchCapture_supply (s : State) (c : CaptureOutcome) : (s.latchCapture c).supply = s.supply := rfl
@[simp] theorem State.latchCapture_pins (s : State) (c : CaptureOutcome) : (s.latchCapture c).pins = s.pins := rfl
@[simp] theorem State.latchCapture_port (s : State) (c : CaptureOutcome) : (s.latchCapture c).port = s.port := rfl
@[simp] theorem State.latchCapture_library (s : State) (c : CaptureOutcome) : (s.latchCapture c).library = s.library := rfl
@[simp] theorem State.latchCapture_zones (s : State) (c : CaptureOutcome) : (s.latchCapture c).zones = s.zones := rfl
@[simp] theorem State.latchCapture_arbiter (s : State) (c : CaptureOutcome) : (s.latchCapture c).arbiter = s.arbiter := rfl
@[simp] theorem State.latchCapture_generators (s : State) (c : CaptureOutcome) : (s.latchCapture c).generators = s.generators := rfl
@[simp] theorem State.latchCapture_lines (s : State) (c : CaptureOutcome) : (s.latchCapture c).lines = s.lines := rfl
@[simp] theorem State.latchCapture_capture (s : State) (c : CaptureOutcome) : (s.latchCapture c).capture = s.capture := rfl
@[simp] theorem State.latchCapture_freeCount (s : State) (c : CaptureOutcome) : (s.latchCapture c).freeCount = s.freeCount := rfl
@[simp] theorem State.latchCapture_pending (s : State) (c : CaptureOutcome) : (s.latchCapture c).pending = s.pending := rfl

@[simp] theorem State.latchTrigger_ticks (s : State) (n : Fin 4) (st : Status) : (s.latchTrigger n st).ticks = s.ticks := rfl
@[simp] theorem State.latchTrigger_assertedReset (s : State) (n : Fin 4) (st : Status) : (s.latchTrigger n st).assertedReset = s.assertedReset := rfl
@[simp] theorem State.latchTrigger_supply (s : State) (n : Fin 4) (st : Status) : (s.latchTrigger n st).supply = s.supply := rfl
@[simp] theorem State.latchTrigger_pins (s : State) (n : Fin 4) (st : Status) : (s.latchTrigger n st).pins = s.pins := rfl
@[simp] theorem State.latchTrigger_port (s : State) (n : Fin 4) (st : Status) : (s.latchTrigger n st).port = s.port := rfl
@[simp] theorem State.latchTrigger_library (s : State) (n : Fin 4) (st : Status) : (s.latchTrigger n st).library = s.library := rfl
@[simp] theorem State.latchTrigger_zones (s : State) (n : Fin 4) (st : Status) : (s.latchTrigger n st).zones = s.zones := rfl
@[simp] theorem State.latchTrigger_arbiter (s : State) (n : Fin 4) (st : Status) : (s.latchTrigger n st).arbiter = s.arbiter := rfl
@[simp] theorem State.latchTrigger_generators (s : State) (n : Fin 4) (st : Status) : (s.latchTrigger n st).generators = s.generators := rfl
@[simp] theorem State.latchTrigger_lines (s : State) (n : Fin 4) (st : Status) : (s.latchTrigger n st).lines = s.lines := rfl
@[simp] theorem State.latchTrigger_capture (s : State) (n : Fin 4) (st : Status) : (s.latchTrigger n st).capture = s.capture := rfl
@[simp] theorem State.latchTrigger_freeCount (s : State) (n : Fin 4) (st : Status) : (s.latchTrigger n st).freeCount = s.freeCount := rfl
@[simp] theorem State.latchTrigger_pending (s : State) (n : Fin 4) (st : Status) : (s.latchTrigger n st).pending = s.pending := rfl

@[simp] theorem State.setStaging_ticks (s : State) (st : Option Staging) : (s.setStaging st).ticks = s.ticks := rfl
@[simp] theorem State.setStaging_assertedReset (s : State) (st : Option Staging) : (s.setStaging st).assertedReset = s.assertedReset := rfl
@[simp] theorem State.setStaging_supply (s : State) (st : Option Staging) : (s.setStaging st).supply = s.supply := rfl
@[simp] theorem State.setStaging_pins (s : State) (st : Option Staging) : (s.setStaging st).pins = s.pins := rfl
@[simp] theorem State.setStaging_port (s : State) (st : Option Staging) : (s.setStaging st).port = s.port := rfl
@[simp] theorem State.setStaging_zones (s : State) (st : Option Staging) : (s.setStaging st).zones = s.zones := rfl
@[simp] theorem State.setStaging_arbiter (s : State) (st : Option Staging) : (s.setStaging st).arbiter = s.arbiter := rfl
@[simp] theorem State.setStaging_generators (s : State) (st : Option Staging) : (s.setStaging st).generators = s.generators := rfl
@[simp] theorem State.setStaging_lines (s : State) (st : Option Staging) : (s.setStaging st).lines = s.lines := rfl
@[simp] theorem State.setStaging_capture (s : State) (st : Option Staging) : (s.setStaging st).capture = s.capture := rfl
@[simp] theorem State.setStaging_notices (s : State) (st : Option Staging) : (s.setStaging st).notices = s.notices := rfl
@[simp] theorem State.setStaging_freeCount (s : State) (st : Option Staging) : (s.setStaging st).freeCount = s.freeCount := rfl
@[simp] theorem State.setStaging_pending (s : State) (st : Option Staging) : (s.setStaging st).pending = s.pending := rfl

@[simp] theorem State.setSession_ticks (s : State) (c : Option Session) : (s.setSession c).ticks = s.ticks := rfl
@[simp] theorem State.setSession_assertedReset (s : State) (c : Option Session) : (s.setSession c).assertedReset = s.assertedReset := rfl
@[simp] theorem State.setSession_supply (s : State) (c : Option Session) : (s.setSession c).supply = s.supply := rfl
@[simp] theorem State.setSession_pins (s : State) (c : Option Session) : (s.setSession c).pins = s.pins := rfl
@[simp] theorem State.setSession_port (s : State) (c : Option Session) : (s.setSession c).port = s.port := rfl
@[simp] theorem State.setSession_library (s : State) (c : Option Session) : (s.setSession c).library = s.library := rfl
@[simp] theorem State.setSession_zones (s : State) (c : Option Session) : (s.setSession c).zones = s.zones := rfl
@[simp] theorem State.setSession_arbiter (s : State) (c : Option Session) : (s.setSession c).arbiter = s.arbiter := rfl
@[simp] theorem State.setSession_generators (s : State) (c : Option Session) : (s.setSession c).generators = s.generators := rfl
@[simp] theorem State.setSession_lines (s : State) (c : Option Session) : (s.setSession c).lines = s.lines := rfl
@[simp] theorem State.setSession_notices (s : State) (c : Option Session) : (s.setSession c).notices = s.notices := rfl
@[simp] theorem State.setSession_freeCount (s : State) (c : Option Session) : (s.setSession c).freeCount = s.freeCount := rfl
@[simp] theorem State.setSession_pending (s : State) (c : Option Session) : (s.setSession c).pending = s.pending := rfl

@[simp] theorem State.setService_ticks (s : State) (es : List ServiceEntry) : (s.setService es).ticks = s.ticks := rfl
@[simp] theorem State.setService_assertedReset (s : State) (es : List ServiceEntry) : (s.setService es).assertedReset = s.assertedReset := rfl
@[simp] theorem State.setService_supply (s : State) (es : List ServiceEntry) : (s.setService es).supply = s.supply := rfl
@[simp] theorem State.setService_pins (s : State) (es : List ServiceEntry) : (s.setService es).pins = s.pins := rfl
@[simp] theorem State.setService_port (s : State) (es : List ServiceEntry) : (s.setService es).port = s.port := rfl
@[simp] theorem State.setService_library (s : State) (es : List ServiceEntry) : (s.setService es).library = s.library := rfl
@[simp] theorem State.setService_zones (s : State) (es : List ServiceEntry) : (s.setService es).zones = s.zones := rfl
@[simp] theorem State.setService_arbiter (s : State) (es : List ServiceEntry) : (s.setService es).arbiter = s.arbiter := rfl
@[simp] theorem State.setService_generators (s : State) (es : List ServiceEntry) : (s.setService es).generators = s.generators := rfl
@[simp] theorem State.setService_lines (s : State) (es : List ServiceEntry) : (s.setService es).lines = s.lines := rfl
@[simp] theorem State.setService_capture (s : State) (es : List ServiceEntry) : (s.setService es).capture = s.capture := rfl
@[simp] theorem State.setService_freeCount (s : State) (es : List ServiceEntry) : (s.setService es).freeCount = s.freeCount := rfl
@[simp] theorem State.setService_pending (s : State) (es : List ServiceEntry) : (s.setService es).pending = s.pending := rfl

@[simp] theorem State.setPort_ticks (s : State) (p : Port) : (s.setPort p).ticks = s.ticks := rfl
@[simp] theorem State.setPort_assertedReset (s : State) (p : Port) : (s.setPort p).assertedReset = s.assertedReset := rfl
@[simp] theorem State.setPort_supply (s : State) (p : Port) : (s.setPort p).supply = s.supply := rfl
@[simp] theorem State.setPort_pins (s : State) (p : Port) : (s.setPort p).pins = s.pins := rfl
@[simp] theorem State.setPort_library (s : State) (p : Port) : (s.setPort p).library = s.library := rfl
@[simp] theorem State.setPort_zones (s : State) (p : Port) : (s.setPort p).zones = s.zones := rfl
@[simp] theorem State.setPort_arbiter (s : State) (p : Port) : (s.setPort p).arbiter = s.arbiter := rfl
@[simp] theorem State.setPort_generators (s : State) (p : Port) : (s.setPort p).generators = s.generators := rfl
@[simp] theorem State.setPort_lines (s : State) (p : Port) : (s.setPort p).lines = s.lines := rfl
@[simp] theorem State.setPort_capture (s : State) (p : Port) : (s.setPort p).capture = s.capture := rfl
@[simp] theorem State.setPort_notices (s : State) (p : Port) : (s.setPort p).notices = s.notices := rfl
@[simp] theorem State.setPort_freeCount (s : State) (p : Port) : (s.setPort p).freeCount = s.freeCount := rfl
@[simp] theorem State.setPort_pending (s : State) (p : Port) : (s.setPort p).pending = s.pending := rfl

@[simp] theorem State.rxdStarts_ticks (s : State)  : (s.rxdStarts).ticks = s.ticks := rfl
@[simp] theorem State.rxdStarts_assertedReset (s : State)  : (s.rxdStarts).assertedReset = s.assertedReset := rfl
@[simp] theorem State.rxdStarts_supply (s : State)  : (s.rxdStarts).supply = s.supply := rfl
@[simp] theorem State.rxdStarts_port (s : State)  : (s.rxdStarts).port = s.port := rfl
@[simp] theorem State.rxdStarts_library (s : State)  : (s.rxdStarts).library = s.library := rfl
@[simp] theorem State.rxdStarts_zones (s : State)  : (s.rxdStarts).zones = s.zones := rfl
@[simp] theorem State.rxdStarts_arbiter (s : State)  : (s.rxdStarts).arbiter = s.arbiter := rfl
@[simp] theorem State.rxdStarts_generators (s : State)  : (s.rxdStarts).generators = s.generators := rfl
@[simp] theorem State.rxdStarts_lines (s : State)  : (s.rxdStarts).lines = s.lines := rfl
@[simp] theorem State.rxdStarts_capture (s : State)  : (s.rxdStarts).capture = s.capture := rfl
@[simp] theorem State.rxdStarts_notices (s : State)  : (s.rxdStarts).notices = s.notices := rfl
@[simp] theorem State.rxdStarts_freeCount (s : State)  : (s.rxdStarts).freeCount = s.freeCount := rfl
@[simp] theorem State.rxdStarts_pending (s : State)  : (s.rxdStarts).pending = s.pending := rfl

@[simp] theorem State.rxdIdle_ticks (s : State)  : (s.rxdIdle).ticks = s.ticks := rfl
@[simp] theorem State.rxdIdle_assertedReset (s : State)  : (s.rxdIdle).assertedReset = s.assertedReset := rfl
@[simp] theorem State.rxdIdle_supply (s : State)  : (s.rxdIdle).supply = s.supply := rfl
@[simp] theorem State.rxdIdle_library (s : State)  : (s.rxdIdle).library = s.library := rfl
@[simp] theorem State.rxdIdle_zones (s : State)  : (s.rxdIdle).zones = s.zones := rfl
@[simp] theorem State.rxdIdle_arbiter (s : State)  : (s.rxdIdle).arbiter = s.arbiter := rfl
@[simp] theorem State.rxdIdle_generators (s : State)  : (s.rxdIdle).generators = s.generators := rfl
@[simp] theorem State.rxdIdle_lines (s : State)  : (s.rxdIdle).lines = s.lines := rfl
@[simp] theorem State.rxdIdle_capture (s : State)  : (s.rxdIdle).capture = s.capture := rfl
@[simp] theorem State.rxdIdle_notices (s : State)  : (s.rxdIdle).notices = s.notices := rfl
@[simp] theorem State.rxdIdle_freeCount (s : State)  : (s.rxdIdle).freeCount = s.freeCount := rfl
@[simp] theorem State.rxdIdle_pending (s : State)  : (s.rxdIdle).pending = s.pending := rfl

@[simp] theorem State.setBuffer_ticks (s : State) (b : List (List Byte)) : (s.setBuffer b).ticks = s.ticks := rfl
@[simp] theorem State.setBuffer_assertedReset (s : State) (b : List (List Byte)) : (s.setBuffer b).assertedReset = s.assertedReset := rfl
@[simp] theorem State.setBuffer_supply (s : State) (b : List (List Byte)) : (s.setBuffer b).supply = s.supply := rfl
@[simp] theorem State.setBuffer_pins (s : State) (b : List (List Byte)) : (s.setBuffer b).pins = s.pins := rfl
@[simp] theorem State.setBuffer_library (s : State) (b : List (List Byte)) : (s.setBuffer b).library = s.library := rfl
@[simp] theorem State.setBuffer_zones (s : State) (b : List (List Byte)) : (s.setBuffer b).zones = s.zones := rfl
@[simp] theorem State.setBuffer_arbiter (s : State) (b : List (List Byte)) : (s.setBuffer b).arbiter = s.arbiter := rfl
@[simp] theorem State.setBuffer_generators (s : State) (b : List (List Byte)) : (s.setBuffer b).generators = s.generators := rfl
@[simp] theorem State.setBuffer_lines (s : State) (b : List (List Byte)) : (s.setBuffer b).lines = s.lines := rfl
@[simp] theorem State.setBuffer_capture (s : State) (b : List (List Byte)) : (s.setBuffer b).capture = s.capture := rfl
@[simp] theorem State.setBuffer_notices (s : State) (b : List (List Byte)) : (s.setBuffer b).notices = s.notices := rfl
@[simp] theorem State.setBuffer_freeCount (s : State) (b : List (List Byte)) : (s.setBuffer b).freeCount = s.freeCount := rfl
@[simp] theorem State.setBuffer_pending (s : State) (b : List (List Byte)) : (s.setBuffer b).pending = s.pending := rfl

@[simp] theorem State.startReply_ticks (s : State) (c : Byte) (r : Reply) : (s.startReply c r).ticks = s.ticks := rfl
@[simp] theorem State.startReply_assertedReset (s : State) (c : Byte) (r : Reply) : (s.startReply c r).assertedReset = s.assertedReset := rfl
@[simp] theorem State.startReply_supply (s : State) (c : Byte) (r : Reply) : (s.startReply c r).supply = s.supply := rfl
@[simp] theorem State.startReply_pins (s : State) (c : Byte) (r : Reply) : (s.startReply c r).pins = s.pins := rfl
@[simp] theorem State.startReply_library (s : State) (c : Byte) (r : Reply) : (s.startReply c r).library = s.library := rfl
@[simp] theorem State.startReply_zones (s : State) (c : Byte) (r : Reply) : (s.startReply c r).zones = s.zones := rfl
@[simp] theorem State.startReply_arbiter (s : State) (c : Byte) (r : Reply) : (s.startReply c r).arbiter = s.arbiter := rfl
@[simp] theorem State.startReply_generators (s : State) (c : Byte) (r : Reply) : (s.startReply c r).generators = s.generators := rfl
@[simp] theorem State.startReply_lines (s : State) (c : Byte) (r : Reply) : (s.startReply c r).lines = s.lines := rfl
@[simp] theorem State.startReply_capture (s : State) (c : Byte) (r : Reply) : (s.startReply c r).capture = s.capture := rfl
@[simp] theorem State.startReply_notices (s : State) (c : Byte) (r : Reply) : (s.startReply c r).notices = s.notices := rfl
@[simp] theorem State.startReply_pending (s : State) (c : Byte) (r : Reply) : (s.startReply c r).pending = s.pending := rfl

@[simp] theorem State.closeGate_ticks (s : State) (z : Fin 8) : (s.closeGate z).ticks = s.ticks := rfl
@[simp] theorem State.closeGate_assertedReset (s : State) (z : Fin 8) : (s.closeGate z).assertedReset = s.assertedReset := rfl
@[simp] theorem State.closeGate_supply (s : State) (z : Fin 8) : (s.closeGate z).supply = s.supply := rfl
@[simp] theorem State.closeGate_pins (s : State) (z : Fin 8) : (s.closeGate z).pins = s.pins := rfl
@[simp] theorem State.closeGate_port (s : State) (z : Fin 8) : (s.closeGate z).port = s.port := rfl
@[simp] theorem State.closeGate_library (s : State) (z : Fin 8) : (s.closeGate z).library = s.library := rfl
@[simp] theorem State.closeGate_arbiter (s : State) (z : Fin 8) : (s.closeGate z).arbiter = s.arbiter := rfl
@[simp] theorem State.closeGate_generators (s : State) (z : Fin 8) : (s.closeGate z).generators = s.generators := rfl
@[simp] theorem State.closeGate_lines (s : State) (z : Fin 8) : (s.closeGate z).lines = s.lines := rfl
@[simp] theorem State.closeGate_capture (s : State) (z : Fin 8) : (s.closeGate z).capture = s.capture := rfl
@[simp] theorem State.closeGate_notices (s : State) (z : Fin 8) : (s.closeGate z).notices = s.notices := rfl
@[simp] theorem State.closeGate_freeCount (s : State) (z : Fin 8) : (s.closeGate z).freeCount = s.freeCount := rfl
@[simp] theorem State.closeGate_pending (s : State) (z : Fin 8) : (s.closeGate z).pending = s.pending := rfl

@[simp] theorem State.cutOutput_ticks (s : State) (z : Fin 8) : (s.cutOutput z).ticks = s.ticks := rfl
@[simp] theorem State.cutOutput_assertedReset (s : State) (z : Fin 8) : (s.cutOutput z).assertedReset = s.assertedReset := rfl
@[simp] theorem State.cutOutput_supply (s : State) (z : Fin 8) : (s.cutOutput z).supply = s.supply := rfl
@[simp] theorem State.cutOutput_pins (s : State) (z : Fin 8) : (s.cutOutput z).pins = s.pins := rfl
@[simp] theorem State.cutOutput_port (s : State) (z : Fin 8) : (s.cutOutput z).port = s.port := rfl
@[simp] theorem State.cutOutput_library (s : State) (z : Fin 8) : (s.cutOutput z).library = s.library := rfl
@[simp] theorem State.cutOutput_arbiter (s : State) (z : Fin 8) : (s.cutOutput z).arbiter = s.arbiter := rfl
@[simp] theorem State.cutOutput_generators (s : State) (z : Fin 8) : (s.cutOutput z).generators = s.generators := rfl
@[simp] theorem State.cutOutput_lines (s : State) (z : Fin 8) : (s.cutOutput z).lines = s.lines := rfl
@[simp] theorem State.cutOutput_capture (s : State) (z : Fin 8) : (s.cutOutput z).capture = s.capture := rfl
@[simp] theorem State.cutOutput_notices (s : State) (z : Fin 8) : (s.cutOutput z).notices = s.notices := rfl
@[simp] theorem State.cutOutput_freeCount (s : State) (z : Fin 8) : (s.cutOutput z).freeCount = s.freeCount := rfl
@[simp] theorem State.cutOutput_pending (s : State) (z : Fin 8) : (s.cutOutput z).pending = s.pending := rfl

/-! ### Reading back -/

@[simp] theorem State.zone_setZone_self (s : State) (z : Fin 8) (zn : Zone) : (s.setZone z zn).zone z = zn := by
  simp [State.zone, State.setZone]

@[simp] theorem State.zone_setZone_ne (s : State) {z y : Fin 8} (zn : Zone) (h : y ≠ z) :
    (s.setZone z zn).zone y = s.zone y := by
  simp [State.zone, State.setZone, Fin.val_ne_of_ne (Ne.symm h)]

theorem State.zone_setZone (s : State) (z y : Fin 8) (zn : Zone) :
    (s.setZone z zn).zone y = if y = z then zn else s.zone y := by
  split
  · next h => subst h; simp
  · next h => simp [h]

@[simp] theorem State.zone_updZone_self (s : State) (z : Fin 8) (f : Zone → Zone) : (s.updZone z f).zone z = f (s.zone z) := by
  simp [State.updZone]

@[simp] theorem State.zone_updZone_ne (s : State) {z y : Fin 8} (f : Zone → Zone) (h : y ≠ z) :
    (s.updZone z f).zone y = s.zone y := by simp [State.updZone, h]

theorem State.zone_updZone (s : State) (z y : Fin 8) (f : Zone → Zone) :
    (s.updZone z f).zone y = if y = z then f (s.zone z) else s.zone y := by simp [State.updZone, State.zone_setZone]

@[simp] theorem State.setZone_zone (s : State) (z : Fin 8) : s.setZone z (s.zone z) = s := by
  simp [State.setZone, State.zone]

@[simp] theorem State.setZone_setZone (s : State) (z : Fin 8) (a b : Zone) : (s.setZone z a).setZone z b = s.setZone z b := by
  simp [State.setZone]

@[simp] theorem State.slot_setSlot_self (s : State) (i : Fin 64) (sl : Slot) : (s.setSlot i sl).slot i = sl := by
  simp [State.slot, State.setSlot]

@[simp] theorem State.slot_setSlot_ne (s : State) {i j : Fin 64} (sl : Slot) (h : j ≠ i) :
    (s.setSlot i sl).slot j = s.slot j := by
  simp [State.slot, State.setSlot, Fin.val_ne_of_ne (Ne.symm h)]

theorem State.slot_setSlot (s : State) (i j : Fin 64) (sl : Slot) :
    (s.setSlot i sl).slot j = if j = i then sl else s.slot j := by
  split
  · next h => subst h; simp
  · next h => simp [h]

theorem State.slot_addUse (s : State) (i j : Fin 64) :
    (s.addUse i).slot j = Slot.mk (s.slot j).template ((s.slot j).useCount + if j = i then 1 else 0) := by
  simp only [State.addUse, State.slot_setSlot]; split
  · next h => subst h; rfl
  · rfl

theorem State.slot_dropUse (s : State) (i j : Fin 64) :
    (s.dropUse i).slot j = Slot.mk (s.slot j).template ((s.slot j).useCount - if j = i then 1 else 0) := by
  simp only [State.dropUse, State.slot_setSlot]; split
  · next h => subst h; rfl
  · rfl

@[simp] theorem State.template_addUse (s : State) (i j : Fin 64) : (s.addUse i).template j = s.template j := by
  simp [State.template, State.slot_addUse]

@[simp] theorem State.template_dropUse (s : State) (i j : Fin 64) : (s.dropUse i).template j = s.template j := by
  simp [State.template, State.slot_dropUse]

@[simp] theorem State.generator_setGenerator_self (s : State) (g : Fin 4) (x : Generator) :
    (s.setGenerator g x).generator g = x := by simp [State.generator, State.setGenerator]

@[simp] theorem State.generator_setGenerator_ne (s : State) {g h : Fin 4} (x : Generator) (hne : h ≠ g) :
    (s.setGenerator g x).generator h = s.generator h := by
  simp [State.generator, State.setGenerator, Fin.val_ne_of_ne (Ne.symm hne)]

theorem State.generator_setGenerator (s : State) (g h : Fin 4) (x : Generator) :
    (s.setGenerator g x).generator h = if h = g then x else s.generator h := by
  split
  · next e => subst e; simp
  · next e => simp [e]

@[simp] theorem State.line_setLine_self (s : State) (n : Fin 4) (l : Line) : (s.setLine n l).line n = l := by
  simp [State.line, State.setLine]

@[simp] theorem State.line_setLine_ne (s : State) {n m : Fin 4} (l : Line) (h : m ≠ n) :
    (s.setLine n l).line m = s.line m := by
  simp [State.line, State.setLine, Fin.val_ne_of_ne (Ne.symm h)]

theorem State.line_setLine (s : State) (n m : Fin 4) (l : Line) :
    (s.setLine n l).line m = if m = n then l else s.line m := by
  split
  · next e => subst e; simp
  · next e => simp [e]

/-! ### Reading a record through an update of another -/

@[simp] theorem State.slot_setZone (s : State) (z : Fin 8) (zn : Zone) (j : Fin 64) : (s.setZone z zn).slot j = s.slot j := rfl
@[simp] theorem State.template_setZone (s : State) (z : Fin 8) (zn : Zone) (j : Fin 64) : (s.setZone z zn).template j = s.template j := rfl
@[simp] theorem State.generator_setZone (s : State) (z : Fin 8) (zn : Zone) (h : Fin 4) : (s.setZone z zn).generator h = s.generator h := rfl
@[simp] theorem State.line_setZone (s : State) (z : Fin 8) (zn : Zone) (m : Fin 4) : (s.setZone z zn).line m = s.line m := rfl

@[simp] theorem State.slot_updZone (s : State) (z : Fin 8) (f : Zone → Zone) (j : Fin 64) : (s.updZone z f).slot j = s.slot j := rfl
@[simp] theorem State.template_updZone (s : State) (z : Fin 8) (f : Zone → Zone) (j : Fin 64) : (s.updZone z f).template j = s.template j := rfl
@[simp] theorem State.generator_updZone (s : State) (z : Fin 8) (f : Zone → Zone) (h : Fin 4) : (s.updZone z f).generator h = s.generator h := rfl
@[simp] theorem State.line_updZone (s : State) (z : Fin 8) (f : Zone → Zone) (m : Fin 4) : (s.updZone z f).line m = s.line m := rfl

@[simp] theorem State.slot_updActive (s : State) (z : Fin 8) (f : ActiveJob → ActiveJob) (j : Fin 64) : (s.updActive z f).slot j = s.slot j := rfl
@[simp] theorem State.template_updActive (s : State) (z : Fin 8) (f : ActiveJob → ActiveJob) (j : Fin 64) : (s.updActive z f).template j = s.template j := rfl
@[simp] theorem State.generator_updActive (s : State) (z : Fin 8) (f : ActiveJob → ActiveJob) (h : Fin 4) : (s.updActive z f).generator h = s.generator h := rfl
@[simp] theorem State.line_updActive (s : State) (z : Fin 8) (f : ActiveJob → ActiveJob) (m : Fin 4) : (s.updActive z f).line m = s.line m := rfl

@[simp] theorem State.slot_setPlay (s : State) (z : Fin 8) (p : PlayState) (j : Fin 64) : (s.setPlay z p).slot j = s.slot j := rfl
@[simp] theorem State.template_setPlay (s : State) (z : Fin 8) (p : PlayState) (j : Fin 64) : (s.setPlay z p).template j = s.template j := rfl
@[simp] theorem State.generator_setPlay (s : State) (z : Fin 8) (p : PlayState) (h : Fin 4) : (s.setPlay z p).generator h = s.generator h := rfl
@[simp] theorem State.line_setPlay (s : State) (z : Fin 8) (p : PlayState) (m : Fin 4) : (s.setPlay z p).line m = s.line m := rfl

@[simp] theorem State.zone_setSlot (s : State) (i : Fin 64) (sl : Slot) (y : Fin 8) : (s.setSlot i sl).zone y = s.zone y := rfl
@[simp] theorem State.generator_setSlot (s : State) (i : Fin 64) (sl : Slot) (h : Fin 4) : (s.setSlot i sl).generator h = s.generator h := rfl
@[simp] theorem State.line_setSlot (s : State) (i : Fin 64) (sl : Slot) (m : Fin 4) : (s.setSlot i sl).line m = s.line m := rfl

@[simp] theorem State.zone_addUse (s : State) (i : Fin 64) (y : Fin 8) : (s.addUse i).zone y = s.zone y := rfl
@[simp] theorem State.generator_addUse (s : State) (i : Fin 64) (h : Fin 4) : (s.addUse i).generator h = s.generator h := rfl
@[simp] theorem State.line_addUse (s : State) (i : Fin 64) (m : Fin 4) : (s.addUse i).line m = s.line m := rfl

@[simp] theorem State.zone_dropUse (s : State) (i : Fin 64) (y : Fin 8) : (s.dropUse i).zone y = s.zone y := rfl
@[simp] theorem State.generator_dropUse (s : State) (i : Fin 64) (h : Fin 4) : (s.dropUse i).generator h = s.generator h := rfl
@[simp] theorem State.line_dropUse (s : State) (i : Fin 64) (m : Fin 4) : (s.dropUse i).line m = s.line m := rfl

@[simp] theorem State.slot_clearToggles (s : State) (i : Fin 64) (j : Fin 64) : (s.clearToggles i).slot j = s.slot j := rfl
@[simp] theorem State.template_clearToggles (s : State) (i : Fin 64) (j : Fin 64) : (s.clearToggles i).template j = s.template j := rfl
@[simp] theorem State.generator_clearToggles (s : State) (i : Fin 64) (h : Fin 4) : (s.clearToggles i).generator h = s.generator h := rfl
@[simp] theorem State.line_clearToggles (s : State) (i : Fin 64) (m : Fin 4) : (s.clearToggles i).line m = s.line m := rfl

@[simp] theorem State.zone_setGenerator (s : State) (g : Fin 4) (gen : Generator) (y : Fin 8) : (s.setGenerator g gen).zone y = s.zone y := rfl
@[simp] theorem State.slot_setGenerator (s : State) (g : Fin 4) (gen : Generator) (j : Fin 64) : (s.setGenerator g gen).slot j = s.slot j := rfl
@[simp] theorem State.template_setGenerator (s : State) (g : Fin 4) (gen : Generator) (j : Fin 64) : (s.setGenerator g gen).template j = s.template j := rfl
@[simp] theorem State.line_setGenerator (s : State) (g : Fin 4) (gen : Generator) (m : Fin 4) : (s.setGenerator g gen).line m = s.line m := rfl

@[simp] theorem State.zone_setLine (s : State) (n : Fin 4) (l : Line) (y : Fin 8) : (s.setLine n l).zone y = s.zone y := rfl
@[simp] theorem State.slot_setLine (s : State) (n : Fin 4) (l : Line) (j : Fin 64) : (s.setLine n l).slot j = s.slot j := rfl
@[simp] theorem State.template_setLine (s : State) (n : Fin 4) (l : Line) (j : Fin 64) : (s.setLine n l).template j = s.template j := rfl
@[simp] theorem State.generator_setLine (s : State) (n : Fin 4) (l : Line) (h : Fin 4) : (s.setLine n l).generator h = s.generator h := rfl

@[simp] theorem State.zone_updLine (s : State) (n : Fin 4) (f : Line → Line) (y : Fin 8) : (s.updLine n f).zone y = s.zone y := rfl
@[simp] theorem State.slot_updLine (s : State) (n : Fin 4) (f : Line → Line) (j : Fin 64) : (s.updLine n f).slot j = s.slot j := rfl
@[simp] theorem State.template_updLine (s : State) (n : Fin 4) (f : Line → Line) (j : Fin 64) : (s.updLine n f).template j = s.template j := rfl
@[simp] theorem State.generator_updLine (s : State) (n : Fin 4) (f : Line → Line) (h : Fin 4) : (s.updLine n f).generator h = s.generator h := rfl

@[simp] theorem State.zone_lineTo (s : State) (n : Fin 4) (st : LineState) (y : Fin 8) : (s.lineTo n st).zone y = s.zone y := rfl
@[simp] theorem State.slot_lineTo (s : State) (n : Fin 4) (st : LineState) (j : Fin 64) : (s.lineTo n st).slot j = s.slot j := rfl
@[simp] theorem State.template_lineTo (s : State) (n : Fin 4) (st : LineState) (j : Fin 64) : (s.lineTo n st).template j = s.template j := rfl
@[simp] theorem State.generator_lineTo (s : State) (n : Fin 4) (st : LineState) (h : Fin 4) : (s.lineTo n st).generator h = s.generator h := rfl

@[simp] theorem State.zone_advance (s : State) (t : Nat) (y : Fin 8) : (s.advance t).zone y = s.zone y := rfl
@[simp] theorem State.slot_advance (s : State) (t : Nat) (j : Fin 64) : (s.advance t).slot j = s.slot j := rfl
@[simp] theorem State.template_advance (s : State) (t : Nat) (j : Fin 64) : (s.advance t).template j = s.template j := rfl
@[simp] theorem State.generator_advance (s : State) (t : Nat) (h : Fin 4) : (s.advance t).generator h = s.generator h := rfl
@[simp] theorem State.line_advance (s : State) (t : Nat) (m : Fin 4) : (s.advance t).line m = s.line m := rfl

@[simp] theorem State.zone_latchFault (s : State) (z : Fin 8) (k : FaultKind) (y : Fin 8) : (s.latchFault z k).zone y = s.zone y := rfl
@[simp] theorem State.slot_latchFault (s : State) (z : Fin 8) (k : FaultKind) (j : Fin 64) : (s.latchFault z k).slot j = s.slot j := rfl
@[simp] theorem State.template_latchFault (s : State) (z : Fin 8) (k : FaultKind) (j : Fin 64) : (s.latchFault z k).template j = s.template j := rfl
@[simp] theorem State.generator_latchFault (s : State) (z : Fin 8) (k : FaultKind) (h : Fin 4) : (s.latchFault z k).generator h = s.generator h := rfl
@[simp] theorem State.line_latchFault (s : State) (z : Fin 8) (k : FaultKind) (m : Fin 4) : (s.latchFault z k).line m = s.line m := rfl

@[simp] theorem State.zone_latchLink (s : State) (c : LinkCause) (y : Fin 8) : (s.latchLink c).zone y = s.zone y := rfl
@[simp] theorem State.slot_latchLink (s : State) (c : LinkCause) (j : Fin 64) : (s.latchLink c).slot j = s.slot j := rfl
@[simp] theorem State.template_latchLink (s : State) (c : LinkCause) (j : Fin 64) : (s.latchLink c).template j = s.template j := rfl
@[simp] theorem State.generator_latchLink (s : State) (c : LinkCause) (h : Fin 4) : (s.latchLink c).generator h = s.generator h := rfl
@[simp] theorem State.line_latchLink (s : State) (c : LinkCause) (m : Fin 4) : (s.latchLink c).line m = s.line m := rfl

@[simp] theorem State.zone_latchCapture (s : State) (c : CaptureOutcome) (y : Fin 8) : (s.latchCapture c).zone y = s.zone y := rfl
@[simp] theorem State.slot_latchCapture (s : State) (c : CaptureOutcome) (j : Fin 64) : (s.latchCapture c).slot j = s.slot j := rfl
@[simp] theorem State.template_latchCapture (s : State) (c : CaptureOutcome) (j : Fin 64) : (s.latchCapture c).template j = s.template j := rfl
@[simp] theorem State.generator_latchCapture (s : State) (c : CaptureOutcome) (h : Fin 4) : (s.latchCapture c).generator h = s.generator h := rfl
@[simp] theorem State.line_latchCapture (s : State) (c : CaptureOutcome) (m : Fin 4) : (s.latchCapture c).line m = s.line m := rfl

@[simp] theorem State.zone_latchTrigger (s : State) (n : Fin 4) (st : Status) (y : Fin 8) : (s.latchTrigger n st).zone y = s.zone y := rfl
@[simp] theorem State.slot_latchTrigger (s : State) (n : Fin 4) (st : Status) (j : Fin 64) : (s.latchTrigger n st).slot j = s.slot j := rfl
@[simp] theorem State.template_latchTrigger (s : State) (n : Fin 4) (st : Status) (j : Fin 64) : (s.latchTrigger n st).template j = s.template j := rfl
@[simp] theorem State.generator_latchTrigger (s : State) (n : Fin 4) (st : Status) (h : Fin 4) : (s.latchTrigger n st).generator h = s.generator h := rfl
@[simp] theorem State.line_latchTrigger (s : State) (n : Fin 4) (st : Status) (m : Fin 4) : (s.latchTrigger n st).line m = s.line m := rfl

@[simp] theorem State.zone_setStaging (s : State) (st : Option Staging) (y : Fin 8) : (s.setStaging st).zone y = s.zone y := rfl
@[simp] theorem State.slot_setStaging (s : State) (st : Option Staging) (j : Fin 64) : (s.setStaging st).slot j = s.slot j := rfl
@[simp] theorem State.template_setStaging (s : State) (st : Option Staging) (j : Fin 64) : (s.setStaging st).template j = s.template j := rfl
@[simp] theorem State.generator_setStaging (s : State) (st : Option Staging) (h : Fin 4) : (s.setStaging st).generator h = s.generator h := rfl
@[simp] theorem State.line_setStaging (s : State) (st : Option Staging) (m : Fin 4) : (s.setStaging st).line m = s.line m := rfl

@[simp] theorem State.zone_setSession (s : State) (c : Option Session) (y : Fin 8) : (s.setSession c).zone y = s.zone y := rfl
@[simp] theorem State.slot_setSession (s : State) (c : Option Session) (j : Fin 64) : (s.setSession c).slot j = s.slot j := rfl
@[simp] theorem State.template_setSession (s : State) (c : Option Session) (j : Fin 64) : (s.setSession c).template j = s.template j := rfl
@[simp] theorem State.generator_setSession (s : State) (c : Option Session) (h : Fin 4) : (s.setSession c).generator h = s.generator h := rfl
@[simp] theorem State.line_setSession (s : State) (c : Option Session) (m : Fin 4) : (s.setSession c).line m = s.line m := rfl

@[simp] theorem State.zone_setService (s : State) (es : List ServiceEntry) (y : Fin 8) : (s.setService es).zone y = s.zone y := rfl
@[simp] theorem State.slot_setService (s : State) (es : List ServiceEntry) (j : Fin 64) : (s.setService es).slot j = s.slot j := rfl
@[simp] theorem State.template_setService (s : State) (es : List ServiceEntry) (j : Fin 64) : (s.setService es).template j = s.template j := rfl
@[simp] theorem State.generator_setService (s : State) (es : List ServiceEntry) (h : Fin 4) : (s.setService es).generator h = s.generator h := rfl
@[simp] theorem State.line_setService (s : State) (es : List ServiceEntry) (m : Fin 4) : (s.setService es).line m = s.line m := rfl

@[simp] theorem State.zone_setPort (s : State) (p : Port) (y : Fin 8) : (s.setPort p).zone y = s.zone y := rfl
@[simp] theorem State.slot_setPort (s : State) (p : Port) (j : Fin 64) : (s.setPort p).slot j = s.slot j := rfl
@[simp] theorem State.template_setPort (s : State) (p : Port) (j : Fin 64) : (s.setPort p).template j = s.template j := rfl
@[simp] theorem State.generator_setPort (s : State) (p : Port) (h : Fin 4) : (s.setPort p).generator h = s.generator h := rfl
@[simp] theorem State.line_setPort (s : State) (p : Port) (m : Fin 4) : (s.setPort p).line m = s.line m := rfl

@[simp] theorem State.zone_rxdStarts (s : State)  (y : Fin 8) : (s.rxdStarts).zone y = s.zone y := rfl
@[simp] theorem State.slot_rxdStarts (s : State)  (j : Fin 64) : (s.rxdStarts).slot j = s.slot j := rfl
@[simp] theorem State.template_rxdStarts (s : State)  (j : Fin 64) : (s.rxdStarts).template j = s.template j := rfl
@[simp] theorem State.generator_rxdStarts (s : State)  (h : Fin 4) : (s.rxdStarts).generator h = s.generator h := rfl
@[simp] theorem State.line_rxdStarts (s : State)  (m : Fin 4) : (s.rxdStarts).line m = s.line m := rfl

@[simp] theorem State.zone_rxdIdle (s : State)  (y : Fin 8) : (s.rxdIdle).zone y = s.zone y := rfl
@[simp] theorem State.slot_rxdIdle (s : State)  (j : Fin 64) : (s.rxdIdle).slot j = s.slot j := rfl
@[simp] theorem State.template_rxdIdle (s : State)  (j : Fin 64) : (s.rxdIdle).template j = s.template j := rfl
@[simp] theorem State.generator_rxdIdle (s : State)  (h : Fin 4) : (s.rxdIdle).generator h = s.generator h := rfl
@[simp] theorem State.line_rxdIdle (s : State)  (m : Fin 4) : (s.rxdIdle).line m = s.line m := rfl

@[simp] theorem State.zone_setBuffer (s : State) (b : List (List Byte)) (y : Fin 8) : (s.setBuffer b).zone y = s.zone y := rfl
@[simp] theorem State.slot_setBuffer (s : State) (b : List (List Byte)) (j : Fin 64) : (s.setBuffer b).slot j = s.slot j := rfl
@[simp] theorem State.template_setBuffer (s : State) (b : List (List Byte)) (j : Fin 64) : (s.setBuffer b).template j = s.template j := rfl
@[simp] theorem State.generator_setBuffer (s : State) (b : List (List Byte)) (h : Fin 4) : (s.setBuffer b).generator h = s.generator h := rfl
@[simp] theorem State.line_setBuffer (s : State) (b : List (List Byte)) (m : Fin 4) : (s.setBuffer b).line m = s.line m := rfl

@[simp] theorem State.zone_startReply (s : State) (c : Byte) (r : Reply) (y : Fin 8) : (s.startReply c r).zone y = s.zone y := rfl
@[simp] theorem State.slot_startReply (s : State) (c : Byte) (r : Reply) (j : Fin 64) : (s.startReply c r).slot j = s.slot j := rfl
@[simp] theorem State.template_startReply (s : State) (c : Byte) (r : Reply) (j : Fin 64) : (s.startReply c r).template j = s.template j := rfl
@[simp] theorem State.generator_startReply (s : State) (c : Byte) (r : Reply) (h : Fin 4) : (s.startReply c r).generator h = s.generator h := rfl
@[simp] theorem State.line_startReply (s : State) (c : Byte) (r : Reply) (m : Fin 4) : (s.startReply c r).line m = s.line m := rfl

@[simp] theorem State.slot_closeGate (s : State) (z : Fin 8) (j : Fin 64) : (s.closeGate z).slot j = s.slot j := rfl
@[simp] theorem State.template_closeGate (s : State) (z : Fin 8) (j : Fin 64) : (s.closeGate z).template j = s.template j := rfl
@[simp] theorem State.generator_closeGate (s : State) (z : Fin 8) (h : Fin 4) : (s.closeGate z).generator h = s.generator h := rfl
@[simp] theorem State.line_closeGate (s : State) (z : Fin 8) (m : Fin 4) : (s.closeGate z).line m = s.line m := rfl

@[simp] theorem State.slot_cutOutput (s : State) (z : Fin 8) (j : Fin 64) : (s.cutOutput z).slot j = s.slot j := rfl
@[simp] theorem State.template_cutOutput (s : State) (z : Fin 8) (j : Fin 64) : (s.cutOutput z).template j = s.template j := rfl
@[simp] theorem State.generator_cutOutput (s : State) (z : Fin 8) (h : Fin 4) : (s.cutOutput z).generator h = s.generator h := rfl
@[simp] theorem State.line_cutOutput (s : State) (z : Fin 8) (m : Fin 4) : (s.cutOutput z).line m = s.line m := rfl

/-! ### Operands -/

@[simp] theorem index?_byteOf {n : Nat} (h : n ≤ 256) (i : Fin n) : index? n (byteOf i) = some i := by
  have hi : i.val % 256 = i.val := Nat.mod_eq_of_lt (by omega)
  simp [index?, byteOf, hi]

@[simp] theorem index?_byteOf_8 (i : Fin 8) : index? 8 (byteOf i) = some i := index?_byteOf (by omega) i
@[simp] theorem index?_byteOf_4 (i : Fin 4) : index? 4 (byteOf i) = some i := index?_byteOf (by omega) i
@[simp] theorem index?_byteOf_64 (i : Fin 64) : index? 64 (byteOf i) = some i := index?_byteOf (by omega) i

theorem index?_eq_none {n : Nat} {b : Byte} (h : n ≤ b.toNat) : index? n b = none := by
  simp [index?, Nat.not_lt.mpr h]

theorem index?_eq_some {n : Nat} {b : Byte} {i : Fin n} : index? n b = some i ↔ i.val = b.toNat := by
  unfold index?; split
  · constructor
    · intro h; injection h with h; rw [← h]
    · intro h; simp [Fin.ext_iff, h]
  · next h => constructor
              · intro h'; cases h'
              · intro h'; exact absurd (h' ▸ i.isLt) h

end Machine
end Sys2Proof
end

