-- ==== Sys2Proof/Laws/Layouts.lean ====
section
/-!
SUPPORT. The bytes of a reply: the stated ones stand in its frame whole and in order when they fit, and they fit in every
reply whose lists are as short as the part keeps them (R172).
-/
namespace Sys2Proof.Machine

/-- The bytes that a list of parts states. -/
def statedOf (parts : List Part) : List Byte := parts.flatMap statedPart

theorem stated_sublist_partsBytes (n place room : Nat) (parts : List Part) :
    (statedOf parts).Sublist (partsBytes n place room parts) := by
  induction parts generalizing place room with
  | nil => exact .refl _
  | cons p parts ih =>
    cases p with
    | stated bs => exact (List.Sublist.refl bs).append (ih _ _)
    | unstated v => exact (ih _ _).trans (List.sublist_append_right _ _)

theorem partsBytes_length_le (n place room : Nat) (parts : List Part) :
    (partsBytes n place room parts).length ≤ (statedOf parts).length + room := by
  induction parts generalizing place room with
  | nil => simp [partsBytes]
  | cons p parts ih =>
    cases p with
    | stated bs =>
      have := ih (place + 1) room
      simp only [partsBytes, statedOf, List.flatMap_cons, statedPart, List.length_append] at this ⊢
      omega
    | unstated v =>
      have h := ih (place + 1) (room - ((Config.partBytes n place v).take room).length)
      have k : ((Config.partBytes n place v).take room).length ≤ room := by simp
      simp only [partsBytes, statedOf, List.flatMap_cons, statedPart, List.length_append, List.nil_append] at h ⊢
      omega

/-- Where the stated bytes of a reply fit, nothing of it is cut but free bytes. -/
theorem fieldBytes_eq {fields : ReplyFields} (h : (statedOf (replyParts fields)).length ≤ mostFieldBytes) (n : Nat) :
    fieldBytes fields n
      = partsBytes n 0 (mostFieldBytes - (statedOf (replyParts fields)).length) (replyParts fields) := by
  have k := partsBytes_length_le n 0 (mostFieldBytes - (statedOf (replyParts fields)).length) (replyParts fields)
  exact List.take_of_length_le (by simp only [statedOf] at h k ⊢; omega)

/-- Where the stated bytes of a reply fit, they stand in it whole and in their order. -/
theorem stated_sublist_fieldBytes {fields : ReplyFields} (h : (statedOf (replyParts fields)).length ≤ mostFieldBytes)
    (n : Nat) : (statedOf (replyParts fields)).Sublist (fieldBytes fields n) := by
  rw [fieldBytes_eq h]; exact stated_sublist_partsBytes _ _ _ _

/-- The lists of a reply are as short as the part keeps them: R18's six elements, queues of 8 (R23), eight waiting zones
(R50), payloads of 64 bits (R21), 24 entries of a read (R153), 16 fault pairs (R158), 8 claims (R160), the characters of
R180. -/
def ReplyFields.Short : ReplyFields → Prop
  | .identify r => r.vendor.length + r.part.length ≤ 11
  | .templateQuery r => r.elements.length ≤ 6
  | .zoneQuery r => r.tags.length ≤ 8
  | .zoneReset _ _ tags _ _ => tags.length ≤ 8
  | .zoneFlush _ removed _ _ => removed.length ≤ 8
  | .slotQuery r => r.waiting.length ≤ 8
  | .triggerQuery r => ∀ b, r.binding = some b → b.payload.length ≤ 64
  | .captureRead _ entries => entries.length ≤ 24
  | .notice _ (.fault pairs) => pairs.length ≤ 16
  | .noticePeek _ service _ _ _ => service.length ≤ 8
  | _ => True

theorem statedOf_append (a b : List Part) : statedOf (a ++ b) = statedOf a ++ statedOf b := by simp [statedOf]
theorem statedOf_cons (p : Part) (a : List Part) : statedOf (p :: a) = statedPart p ++ statedOf a := rfl
theorem statedOf_nil : statedOf [] = [] := rfl

theorem statedOf_optional (ps : Option (List Part)) : statedOf (optionalParts ps) = ps.elim [] statedOf := by
  cases ps <;> rfl

theorem statedOf_flatMap_length {α : Type} (f : α → List Part) (k : Nat) (l : List α)
    (h : ∀ x ∈ l, (statedOf (f x)).length ≤ k) : (statedOf (l.flatMap f)).length ≤ k * l.length := by
  induction l with
  | nil => simp [statedOf]
  | cons x l ih =>
    have h1 := h x (by simp)
    have h2 := ih fun y hy => h y (by simp [hy])
    simp only [List.flatMap_cons, statedOf_append, List.length_append, List.length_cons, Nat.mul_add] at *
    omega

theorem statedOf_map_length {α : Type} (f : α → Part) (k : Nat) (l : List α)
    (h : ∀ x ∈ l, (statedPart (f x)).length ≤ k) : (statedOf (l.map f)).length ≤ k * l.length := by
  induction l with
  | nil => simp [statedOf]
  | cons x l ih =>
    have h1 := h x (by simp)
    have h2 := ih fun y hy => h y (by simp [hy])
    simp only [List.map_cons, statedOf_cons, List.length_append, List.length_cons, Nat.mul_add] at *
    omega

theorem statedOf_flagged (ps : Option (List Part)) :
    (statedOf (flaggedParts ps)).length = 1 + (ps.elim [] statedOf).length := by
  cases ps <;> simp [flaggedParts, statedOf, statedPart, Part.yesNo, yesNoByte, Nat.add_comm]

theorem halfBytes_length (h : Half) : (halfBytes h).length = 2 := rfl
theorem wordBytes_length (w : Word) : (wordBytes w).length = 4 := rfl
theorem headerBytes_length (h : TemplateHeader) : (headerBytes h).length = 21 := rfl
theorem elementBytes_length (e : ElementRecord) : (elementBytes e).length = 4 := rfl
theorem completionBytes_length (c : Completion) : (completionBytes c).length = 16 := rfl
theorem packBits_length (bits : List Bool) : (packBits bits).length = (bits.length + 7) / 8 := by simp [packBits]
theorem noticeHeaderBytes_length (h : NoticeHeader) : (noticeHeaderBytes h).length = 4 := by
  cases hc : h.claimed <;> simp [noticeHeaderBytes, hc, oneByte, yesNoByte]

theorem tagParts_length (tags : List Half) : (statedOf (tagParts tags)).length ≤ 2 * tags.length :=
  statedOf_map_length Part.half 2 tags fun _ _ => Nat.le_refl 2

theorem configParts_length (c : ZoneConfig) (b : BandSet) : (statedOf (configParts c b)).length = 6 := by
  simp [configParts, statedOf, statedPart, Part.yesNo, Part.byte, yesNoByte]

theorem activeParts_length (a : ActiveReport) : (statedOf (activeParts a)).length ≤ 11 := by
  cases h : a.list <;> cases k : a.frameNumber <;>
    simp [activeParts, optionalParts, statedOf, statedPart, h, k, Part.half, Part.index, Part.yesNo, Part.byte, Part.two, Part.number,
      oneByte, twoBytes, yesNoByte, halfBytes_length]

theorem carrierParts_length (r : CarrierReport) : (statedOf (carrierParts r)).length ≤ 5 := by
  cases h : r.setting <;> cases k : r.period <;> cases l : r.band <;>
    simp [carrierParts, flaggedParts, optionalParts, statedOf, statedPart, h, k, l, Part.yesNo, Part.byte, Part.number, Part.set,
      oneByte, yesNoByte]

theorem planParts_length (p : SlotPlan) : (statedOf (planParts p)).length = 18 := by
  simp [planParts, statedOf, statedPart, Part.half, Part.two, twoBytes, halfBytes_length, List.length_flatMap, List.flatMap_map] 

theorem slotParts_length (r : SlotReport) : (statedOf (slotParts r)).length ≤ 23 + 4 * r.waiting.length := by
  have h1 := statedOf_flatMap_length
    (fun (z, tag, i) => [Part.index z, .half tag, .index i]) 4 r.waiting (by rintro ⟨_, _, _⟩ _; exact Nat.le_refl 4)
  have h2 := statedOf_flatMap_length (fun l => optionalParts (l.map fun z => [Part.index z])) 1 r.locks.toList (by
    intro l _; cases l <;> simp [optionalParts, statedOf, statedPart, Part.index, oneByte])
  have h3 : (statedOf (optionalParts (r.plan.map planParts))).length ≤ 18 := by
    rw [statedOf_optional]; cases h : r.plan <;> simp [planParts_length]
  simp only [slotParts, statedOf_append, statedOf_cons, statedOf_nil, List.length_append, Vector.length_toList] at *
  simp only [statedPart, Part.yesNo, Part.number, yesNoByte, List.length_cons, List.length_nil] at *
  omega

theorem bindingParts_length (b : Binding) : (statedOf (bindingParts b)).length ≤ 9 + (b.payload.length + 7) / 8 := by
  cases h : b.mode <;>
    simp [bindingParts, bindModeParts, h, optionalParts, statedOf, statedPart, Part.index, Part.byte, Part.half, Part.two, oneByte,
      twoBytes, halfBytes_length, packBits_length] <;> omega

theorem lineParts_length (r : LineReport) (h : ∀ b, r.binding = some b → b.payload.length ≤ 64) :
    (statedOf (lineParts r)).length ≤ 22 := by
  have k : ((r.binding.map bindingParts).elim [] statedOf).length ≤ 17 := by
    cases hb : r.binding with
    | none => simp
    | some b => have := bindingParts_length b; have := h b hb; simp only [Option.map_some, Option.elim_some]; omega
  simp only [lineParts, statedOf_append, statedOf_cons, statedOf_nil, List.length_append, statedOf_flagged]
  simp only [statedPart, Part.index, Part.byte, Part.yesNo, Part.set, Part.number, oneByte, yesNoByte, List.length_cons, List.length_nil]
  omega

theorem captureParts_length (r : CaptureReport) : (statedOf (captureParts r)).length ≤ 18 := by
  have h1 : (statedOf (optionalParts (r.limits.map fun (source, _) => captureSourceParts source))).length ≤ 2 := by
    rw [statedOf_optional]
    match r.limits with
    | none => simp
    | some (.capd, _) => simp [captureSourceParts, statedOf, optionalParts, statedPart, Part.byte]
    | some (.capc, _) => simp [captureSourceParts, statedOf, optionalParts, statedPart, Part.byte]
    | some (.loopback z, _) => simp [captureSourceParts, statedOf, optionalParts, statedPart, Part.byte, Part.index, oneByte]
  have h2 : (statedOf (optionalParts (r.limits.map fun (_, timeout, gap, most) => [Part.two timeout, .two gap, .two most]))).length ≤ 6 := by
    rw [statedOf_optional]
    cases r.limits <;> simp [statedOf, statedPart, Part.two, twoBytes, halfBytes_length]
  have h3 : (statedOf (optionalParts (r.startTime.map fun w => [Part.word w]))).length ≤ 4 := by
    rw [statedOf_optional]
    cases r.startTime <;> simp [statedOf, statedPart, Part.word, wordBytes_length]
  have h4 : (statedOf (optionalParts (r.estimate.map fun (e, band) => estimateParts e band))).length ≤ 2 := by
    rw [statedOf_optional]
    match r.estimate with
    | none => simp
    | some (.pending, _) => simp [estimateParts, statedOf, optionalParts, statedPart, Part.byte]
    | some (.none, _) => simp [estimateParts, statedOf, optionalParts, statedPart, Part.byte]
    | some (.present _ _, none) => simp [estimateParts, statedOf, optionalParts, statedPart, Part.byte, Part.number]
    | some (.present _ _, some _) => simp [estimateParts, statedOf, optionalParts, statedPart, Part.byte, Part.number]
  simp only [captureParts, statedOf_append, statedOf_cons, statedOf_nil, List.length_append] at *
  simp only [statedPart, Part.byte, Part.number, Part.yesNo, yesNoByte, List.length_cons, List.length_nil] at *
  omega

theorem pickParts_length (pick : Option Source) (attn : Bool) : (statedOf (pickParts pick attn)).length ≤ 2 := by
  cases pick <;> simp [pickParts, optionalParts, statedOf, statedPart, Part.index, Part.yesNo, oneByte, yesNoByte]

theorem noticePeek_length (sources : List SourceReport) (service : List ServiceEntry) (pick : Option Source) (threshold : Fin 9)
    (attn : Bool) : (statedOf (replyParts (.noticePeek sources service pick threshold attn))).length ≤ 3 + 2 * service.length := by
  have h := statedOf_flatMap_length (fun e : ServiceEntry => [Part.index e.source.number, .index e.priority]) 2 service
    fun _ _ => Nat.le_refl 2
  have k : (statedOf (optionalParts (pick.map fun n => [Part.index n.number]))).length ≤ 1 := by
    cases pick <;> simp [optionalParts, statedOf, statedPart, Part.index, oneByte]
  simp only [replyParts, statedOf_append, statedOf_cons, statedOf_nil, List.length_append] at *
  simp only [statedPart, sourcesPart, Part.number, Part.index, Part.yesNo, yesNoByte, oneByte, List.length_cons, List.length_nil] at *
  omega

/-- Every reply whose lists are short has room for all its stated bytes (R172). -/
theorem statedSize_le {fields : ReplyFields} (h : fields.Short) :
    (statedOf (replyParts fields)).length ≤ mostFieldBytes := by
  show _ ≤ 61
  cases fields with
  | identify r =>
    simp only [ReplyFields.Short] at h
    simp [replyParts, statedOf, statedPart, identifyBytes, oneByte, twoBytes, yesNoByte, halfBytes_length]
    omega
  | templateQuery r =>
    simp only [ReplyFields.Short] at h
    have k := statedOf_map_length (fun e => Part.stated (elementBytes e)) 4 r.elements fun _ _ => Nat.le_refl 4
    simp only [replyParts, templateParts, statedOf_append, statedOf_cons, statedOf_nil, List.length_append] at *
    simp only [statedPart, Part.byte, Part.number, Part.yesNo, yesNoByte, oneByte, headerBytes_length, List.length_cons,
      List.length_nil] at *
    omega
  | zoneQuery r =>
    simp only [ReplyFields.Short] at h
    have k := tagParts_length r.tags
    have a : (statedOf (optionalParts (r.active.map activeParts))).length ≤ 11 := by
      rw [statedOf_optional]
      cases r.active with
      | none => simp
      | some x => exact activeParts_length x
    have c := configParts_length r.config r.effective
    simp only [replyParts, zoneParts, statedOf_append, statedOf_cons, statedOf_nil, List.length_append] at *
    simp only [statedPart, Part.byte, Part.state, Part.number, Part.set, Part.yesNo, yesNoByte, List.length_cons, List.length_nil] at *
    omega
  | zoneReset z active tags records st =>
    simp only [ReplyFields.Short] at h
    have k := tagParts_length tags
    have a : ((active.map fun tag => [Part.half tag]).elim [] statedOf).length ≤ 2 := by
      cases active <;> simp [statedOf, statedPart, Part.half, halfBytes_length]
    simp only [replyParts, statedOf_append, statedOf_cons, statedOf_nil, List.length_append, statedOf_flagged] at *
    simp only [statedPart, Part.index, oneByte, Part.byte, Part.state, Part.number, List.length_cons, List.length_nil] at *
    omega
  | zoneFlush z removed result st =>
    simp only [ReplyFields.Short] at h
    have k := tagParts_length removed
    have a : (statedOf (flushParts result)).length ≤ 5 := by
      cases result <;> simp [flushParts, optionalParts, statedOf, statedPart, Part.byte, Part.half, Part.two, twoBytes, halfBytes_length]
    simp only [replyParts, statedOf_append, statedOf_cons, statedOf_nil, List.length_append] at *
    simp only [statedPart, Part.index, oneByte, Part.byte, Part.state, List.length_cons, List.length_nil] at *
    omega
  | slotQuery r => have k := slotParts_length r; simp only [ReplyFields.Short] at h; simp only [replyParts]; omega
  | carrierQuery r =>
    have k := statedOf_flatMap_length carrierParts 5 r.toList fun x _ => carrierParts_length x
    simp only [Vector.length_toList] at k; simp only [replyParts]; omega
  | triggerQuery r => have k := lineParts_length r h; simp only [replyParts]; omega
  | captureQuery r => have k := captureParts_length r; simp only [replyParts]; omega
  | captureRead offset entries =>
    simp only [ReplyFields.Short] at h
    have k : (entries.flatMap twoBytes).length = 2 * entries.length := by
      simp [twoBytes, halfBytes_length, List.length_flatMap, Nat.mul_comm]
    simp [replyParts, statedOf, statedPart, oneByte, k]
    simp [twoBytes, halfBytes_length]; omega
  | notice header body =>
    cases body with
    | fault pairs =>
      simp only [ReplyFields.Short] at h
      simp [replyParts, noticeParts, statedOf, statedPart, oneByte, noticeHeaderBytes_length, List.length_flatMap]
      omega
    | _ => simp [replyParts, noticeParts, statedOf, statedPart, noticeHeaderBytes_length, completionBytes_length, oneByte, yesNoByte,
        Part.byte, Part.number, Part.yesNo]
  | noticePeek sources service pick threshold attn =>
    have k := noticePeek_length sources service pick threshold attn
    simp only [ReplyFields.Short] at h; omega
  | noticeAck e left pick attn =>
    have k := pickParts_length pick attn
    simp only [replyParts, statedOf_append, statedOf_cons, statedOf_nil, List.length_append] at *
    simp only [statedPart, Part.index, oneByte, Part.number, List.length_cons, List.length_nil] at *
    omega
  | noticeSetup threshold settings pick attn =>
    have k := pickParts_length pick attn
    have a := statedOf_flatMap_length (fun x : SourceSetting => [Part.index x.priority, .yesNo x.masked]) 2 settings.toList
      fun _ _ => Nat.le_refl 2
    simp only [Vector.length_toList] at a
    simp only [replyParts, statedOf_append, statedOf_cons, statedOf_nil, List.length_append] at *
    simp only [statedPart, Part.index, oneByte, List.length_cons, List.length_nil] at *
    omega
  | invalidTemplate reason =>
    cases reason with
    | periodRange l => cases l <;> simp [replyParts, invalidParts, optionalParts, statedOf, statedPart, Part.number]
    | _ => simp [replyParts, invalidParts, optionalParts, statedOf, statedPart, Part.number]
  | templateBegin previous installed useCount =>
    cases previous <;> simp [replyParts, flaggedParts, statedOf, statedPart, Part.yesNo, Part.index, Part.number, oneByte, yesNoByte]
  | libraryQuery r =>
    cases k : r.staging <;> simp [replyParts, libraryParts, k, optionalParts, statedOf, statedPart, Part.yesNo, Part.index, Part.number,
      Part.set, oneByte, yesNoByte]
  | zoneSetup c effective st =>
    have k := configParts_length c effective
    simp only [replyParts, statedOf_append, statedOf_cons, statedOf_nil, List.length_append] at *
    simp only [statedPart, Part.state, Part.byte, List.length_cons, List.length_nil] at *
    omega
  | releaseAlready loc frames =>
    cases frames <;> simp [replyParts, optionalParts, statedOf, statedPart, Part.byte, Part.two, twoBytes, halfBytes_length]
  | notHold loc frames =>
    cases frames <;> simp [replyParts, optionalParts, statedOf, statedPart, Part.byte, Part.two, Part.number, twoBytes, halfBytes_length]
  | captureChange before discarded after =>
    cases after <;> simp [replyParts, statedOf, statedPart, Part.byte, Part.number]
  | _ => simp [replyParts, statedOf, statedPart, Part.yesNo, Part.index, Part.number, Part.byte, Part.half, Part.two, Part.word,
      Part.state, oneByte, twoBytes, yesNoByte, halfBytes_length, wordBytes_length, completionBytes_length]

end Sys2Proof.Machine
end

