-- ==== Sys2Proof/Laws/Frame.lean ====
section
/-!
SUPPORT. What each shared operation can change: for every operation, every field of State that it leaves as it was, and
that no operation of a zone changes an installed template.
-/
namespace Sys2Proof.Machine

@[simp] theorem State.releaseBinding_ticks (s : State) (z : Fin 8) (b : Option (Fin 4)) : (s.releaseBinding z b).ticks = s.ticks := by
  unfold State.releaseBinding; split <;> simp
@[simp] theorem State.releaseBinding_assertedReset (s : State) (z : Fin 8) (b : Option (Fin 4)) : (s.releaseBinding z b).assertedReset = s.assertedReset := by
  unfold State.releaseBinding; split <;> simp
@[simp] theorem State.releaseBinding_supply (s : State) (z : Fin 8) (b : Option (Fin 4)) : (s.releaseBinding z b).supply = s.supply := by
  unfold State.releaseBinding; split <;> simp
@[simp] theorem State.releaseBinding_pins (s : State) (z : Fin 8) (b : Option (Fin 4)) : (s.releaseBinding z b).pins = s.pins := by
  unfold State.releaseBinding; split <;> simp
@[simp] theorem State.releaseBinding_port (s : State) (z : Fin 8) (b : Option (Fin 4)) : (s.releaseBinding z b).port = s.port := by
  unfold State.releaseBinding; split <;> simp
@[simp] theorem State.releaseBinding_library (s : State) (z : Fin 8) (b : Option (Fin 4)) : (s.releaseBinding z b).library = s.library := by
  unfold State.releaseBinding; split <;> simp
@[simp] theorem State.releaseBinding_zones (s : State) (z : Fin 8) (b : Option (Fin 4)) : (s.releaseBinding z b).zones = s.zones := by
  unfold State.releaseBinding; split <;> simp
@[simp] theorem State.releaseBinding_arbiter (s : State) (z : Fin 8) (b : Option (Fin 4)) : (s.releaseBinding z b).arbiter = s.arbiter := by
  unfold State.releaseBinding; split <;> simp
@[simp] theorem State.releaseBinding_lines (s : State) (z : Fin 8) (b : Option (Fin 4)) : (s.releaseBinding z b).lines = s.lines := by
  unfold State.releaseBinding; split <;> simp
@[simp] theorem State.releaseBinding_capture (s : State) (z : Fin 8) (b : Option (Fin 4)) : (s.releaseBinding z b).capture = s.capture := by
  unfold State.releaseBinding; split <;> simp
@[simp] theorem State.releaseBinding_notices (s : State) (z : Fin 8) (b : Option (Fin 4)) : (s.releaseBinding z b).notices = s.notices := by
  unfold State.releaseBinding; split <;> simp
@[simp] theorem State.releaseBinding_freeCount (s : State) (z : Fin 8) (b : Option (Fin 4)) : (s.releaseBinding z b).freeCount = s.freeCount := by
  unfold State.releaseBinding; split <;> simp
@[simp] theorem State.releaseBinding_pending (s : State) (z : Fin 8) (b : Option (Fin 4)) : (s.releaseBinding z b).pending = s.pending := by
  unfold State.releaseBinding; split <;> simp
@[simp] theorem State.template_releaseBinding (s : State) (z : Fin 8) (b : Option (Fin 4)) (i : Fin 64) : (s.releaseBinding z b).template i = s.template i := by
  simp [State.template, State.slot]

@[simp] theorem State.giveBack_ticks (s : State) (z : Fin 8) (b : Option (Fin 4)) : (s.giveBack z b).ticks = s.ticks := by
  simp [State.giveBack]
@[simp] theorem State.giveBack_assertedReset (s : State) (z : Fin 8) (b : Option (Fin 4)) : (s.giveBack z b).assertedReset = s.assertedReset := by
  simp [State.giveBack]
@[simp] theorem State.giveBack_supply (s : State) (z : Fin 8) (b : Option (Fin 4)) : (s.giveBack z b).supply = s.supply := by
  simp [State.giveBack]
@[simp] theorem State.giveBack_pins (s : State) (z : Fin 8) (b : Option (Fin 4)) : (s.giveBack z b).pins = s.pins := by
  simp [State.giveBack]
@[simp] theorem State.giveBack_port (s : State) (z : Fin 8) (b : Option (Fin 4)) : (s.giveBack z b).port = s.port := by
  simp [State.giveBack]
@[simp] theorem State.giveBack_library (s : State) (z : Fin 8) (b : Option (Fin 4)) : (s.giveBack z b).library = s.library := by
  simp [State.giveBack]
@[simp] theorem State.giveBack_zones (s : State) (z : Fin 8) (b : Option (Fin 4)) : (s.giveBack z b).zones = s.zones := by
  simp [State.giveBack]
@[simp] theorem State.giveBack_lines (s : State) (z : Fin 8) (b : Option (Fin 4)) : (s.giveBack z b).lines = s.lines := by
  simp [State.giveBack]
@[simp] theorem State.giveBack_capture (s : State) (z : Fin 8) (b : Option (Fin 4)) : (s.giveBack z b).capture = s.capture := by
  simp [State.giveBack]
@[simp] theorem State.giveBack_notices (s : State) (z : Fin 8) (b : Option (Fin 4)) : (s.giveBack z b).notices = s.notices := by
  simp [State.giveBack]
@[simp] theorem State.giveBack_freeCount (s : State) (z : Fin 8) (b : Option (Fin 4)) : (s.giveBack z b).freeCount = s.freeCount := by
  simp [State.giveBack]
@[simp] theorem State.giveBack_pending (s : State) (z : Fin 8) (b : Option (Fin 4)) : (s.giveBack z b).pending = s.pending := by
  simp [State.giveBack]
@[simp] theorem State.template_giveBack (s : State) (z : Fin 8) (b : Option (Fin 4)) (i : Fin 64) : (s.giveBack z b).template i = s.template i := by
  simp [State.template, State.slot]

@[simp] theorem State.dropUses_ticks (s : State) (js : List Job) : (s.dropUses js).ticks = s.ticks := by
  induction js generalizing s with
  | nil => rfl
  | cons _ _ ih => exact (ih _).trans (by simp)
@[simp] theorem State.dropUses_assertedReset (s : State) (js : List Job) : (s.dropUses js).assertedReset = s.assertedReset := by
  induction js generalizing s with
  | nil => rfl
  | cons _ _ ih => exact (ih _).trans (by simp)
@[simp] theorem State.dropUses_supply (s : State) (js : List Job) : (s.dropUses js).supply = s.supply := by
  induction js generalizing s with
  | nil => rfl
  | cons _ _ ih => exact (ih _).trans (by simp)
@[simp] theorem State.dropUses_pins (s : State) (js : List Job) : (s.dropUses js).pins = s.pins := by
  induction js generalizing s with
  | nil => rfl
  | cons _ _ ih => exact (ih _).trans (by simp)
@[simp] theorem State.dropUses_port (s : State) (js : List Job) : (s.dropUses js).port = s.port := by
  induction js generalizing s with
  | nil => rfl
  | cons _ _ ih => exact (ih _).trans (by simp)
@[simp] theorem State.dropUses_zones (s : State) (js : List Job) : (s.dropUses js).zones = s.zones := by
  induction js generalizing s with
  | nil => rfl
  | cons _ _ ih => exact (ih _).trans (by simp)
@[simp] theorem State.dropUses_arbiter (s : State) (js : List Job) : (s.dropUses js).arbiter = s.arbiter := by
  induction js generalizing s with
  | nil => rfl
  | cons _ _ ih => exact (ih _).trans (by simp)
@[simp] theorem State.dropUses_generators (s : State) (js : List Job) : (s.dropUses js).generators = s.generators := by
  induction js generalizing s with
  | nil => rfl
  | cons _ _ ih => exact (ih _).trans (by simp)
@[simp] theorem State.dropUses_lines (s : State) (js : List Job) : (s.dropUses js).lines = s.lines := by
  induction js generalizing s with
  | nil => rfl
  | cons _ _ ih => exact (ih _).trans (by simp)
@[simp] theorem State.dropUses_capture (s : State) (js : List Job) : (s.dropUses js).capture = s.capture := by
  induction js generalizing s with
  | nil => rfl
  | cons _ _ ih => exact (ih _).trans (by simp)
@[simp] theorem State.dropUses_notices (s : State) (js : List Job) : (s.dropUses js).notices = s.notices := by
  induction js generalizing s with
  | nil => rfl
  | cons _ _ ih => exact (ih _).trans (by simp)
@[simp] theorem State.dropUses_freeCount (s : State) (js : List Job) : (s.dropUses js).freeCount = s.freeCount := by
  induction js generalizing s with
  | nil => rfl
  | cons _ _ ih => exact (ih _).trans (by simp)
@[simp] theorem State.dropUses_pending (s : State) (js : List Job) : (s.dropUses js).pending = s.pending := by
  induction js generalizing s with
  | nil => rfl
  | cons _ _ ih => exact (ih _).trans (by simp)
@[simp] theorem State.template_dropUses (s : State) (js : List Job) (i : Fin 64) : (s.dropUses js).template i = s.template i := by
  induction js generalizing s with
  | nil => rfl
  | cons _ _ ih => exact (ih _).trans (by simp)

@[simp] theorem State.endJob_ticks (s : State) (z : Fin 8) (o : JobOutcome) (t : Word) : (s.endJob z o t).ticks = s.ticks := by
  unfold State.endJob; split <;> simp
@[simp] theorem State.endJob_assertedReset (s : State) (z : Fin 8) (o : JobOutcome) (t : Word) : (s.endJob z o t).assertedReset = s.assertedReset := by
  unfold State.endJob; split <;> simp
@[simp] theorem State.endJob_supply (s : State) (z : Fin 8) (o : JobOutcome) (t : Word) : (s.endJob z o t).supply = s.supply := by
  unfold State.endJob; split <;> simp
@[simp] theorem State.endJob_pins (s : State) (z : Fin 8) (o : JobOutcome) (t : Word) : (s.endJob z o t).pins = s.pins := by
  unfold State.endJob; split <;> simp
@[simp] theorem State.endJob_port (s : State) (z : Fin 8) (o : JobOutcome) (t : Word) : (s.endJob z o t).port = s.port := by
  unfold State.endJob; split <;> simp
@[simp] theorem State.endJob_lines (s : State) (z : Fin 8) (o : JobOutcome) (t : Word) : (s.endJob z o t).lines = s.lines := by
  unfold State.endJob; split <;> simp
@[simp] theorem State.endJob_capture (s : State) (z : Fin 8) (o : JobOutcome) (t : Word) : (s.endJob z o t).capture = s.capture := by
  unfold State.endJob; split <;> simp
@[simp] theorem State.endJob_notices (s : State) (z : Fin 8) (o : JobOutcome) (t : Word) : (s.endJob z o t).notices = s.notices := by
  unfold State.endJob; split <;> simp
@[simp] theorem State.endJob_freeCount (s : State) (z : Fin 8) (o : JobOutcome) (t : Word) : (s.endJob z o t).freeCount = s.freeCount := by
  unfold State.endJob; split <;> simp
@[simp] theorem State.endJob_pending (s : State) (z : Fin 8) (o : JobOutcome) (t : Word) : (s.endJob z o t).pending = s.pending := by
  unfold State.endJob; split <;> simp
@[simp] theorem State.template_endJob (s : State) (z : Fin 8) (o : JobOutcome) (t : Word) (i : Fin 64) : (s.endJob z o t).template i = s.template i := by
  unfold State.endJob; split <;> simp

@[simp] theorem State.endIncompatible_ticks (s : State) (z : Fin 8) (j : Job) (rest : List Job) : (s.endIncompatible z j rest).ticks = s.ticks := by
  simp [State.endIncompatible]
@[simp] theorem State.endIncompatible_assertedReset (s : State) (z : Fin 8) (j : Job) (rest : List Job) : (s.endIncompatible z j rest).assertedReset = s.assertedReset := by
  simp [State.endIncompatible]
@[simp] theorem State.endIncompatible_supply (s : State) (z : Fin 8) (j : Job) (rest : List Job) : (s.endIncompatible z j rest).supply = s.supply := by
  simp [State.endIncompatible]
@[simp] theorem State.endIncompatible_pins (s : State) (z : Fin 8) (j : Job) (rest : List Job) : (s.endIncompatible z j rest).pins = s.pins := by
  simp [State.endIncompatible]
@[simp] theorem State.endIncompatible_port (s : State) (z : Fin 8) (j : Job) (rest : List Job) : (s.endIncompatible z j rest).port = s.port := by
  simp [State.endIncompatible]
@[simp] theorem State.endIncompatible_arbiter (s : State) (z : Fin 8) (j : Job) (rest : List Job) : (s.endIncompatible z j rest).arbiter = s.arbiter := by
  simp [State.endIncompatible]
@[simp] theorem State.endIncompatible_generators (s : State) (z : Fin 8) (j : Job) (rest : List Job) : (s.endIncompatible z j rest).generators = s.generators := by
  simp [State.endIncompatible]
@[simp] theorem State.endIncompatible_lines (s : State) (z : Fin 8) (j : Job) (rest : List Job) : (s.endIncompatible z j rest).lines = s.lines := by
  simp [State.endIncompatible]
@[simp] theorem State.endIncompatible_capture (s : State) (z : Fin 8) (j : Job) (rest : List Job) : (s.endIncompatible z j rest).capture = s.capture := by
  simp [State.endIncompatible]
@[simp] theorem State.endIncompatible_notices (s : State) (z : Fin 8) (j : Job) (rest : List Job) : (s.endIncompatible z j rest).notices = s.notices := by
  simp [State.endIncompatible]
@[simp] theorem State.endIncompatible_freeCount (s : State) (z : Fin 8) (j : Job) (rest : List Job) : (s.endIncompatible z j rest).freeCount = s.freeCount := by
  simp [State.endIncompatible]
@[simp] theorem State.endIncompatible_pending (s : State) (z : Fin 8) (j : Job) (rest : List Job) : (s.endIncompatible z j rest).pending = s.pending := by
  simp [State.endIncompatible]
@[simp] theorem State.template_endIncompatible (s : State) (z : Fin 8) (j : Job) (rest : List Job) (i : Fin 64) : (s.endIncompatible z j rest).template i = s.template i := by
  simp [State.endIncompatible]

@[simp] theorem State.beginWaiting_ticks (s : State) (z : Fin 8) (j : Job) (rest : List Job) : (s.beginWaiting z j rest).ticks = s.ticks := by
  simp [State.beginWaiting]
@[simp] theorem State.beginWaiting_assertedReset (s : State) (z : Fin 8) (j : Job) (rest : List Job) : (s.beginWaiting z j rest).assertedReset = s.assertedReset := by
  simp [State.beginWaiting]
@[simp] theorem State.beginWaiting_supply (s : State) (z : Fin 8) (j : Job) (rest : List Job) : (s.beginWaiting z j rest).supply = s.supply := by
  simp [State.beginWaiting]
@[simp] theorem State.beginWaiting_pins (s : State) (z : Fin 8) (j : Job) (rest : List Job) : (s.beginWaiting z j rest).pins = s.pins := by
  simp [State.beginWaiting]
@[simp] theorem State.beginWaiting_port (s : State) (z : Fin 8) (j : Job) (rest : List Job) : (s.beginWaiting z j rest).port = s.port := by
  simp [State.beginWaiting]
@[simp] theorem State.beginWaiting_library (s : State) (z : Fin 8) (j : Job) (rest : List Job) : (s.beginWaiting z j rest).library = s.library := by
  simp [State.beginWaiting]
@[simp] theorem State.beginWaiting_generators (s : State) (z : Fin 8) (j : Job) (rest : List Job) : (s.beginWaiting z j rest).generators = s.generators := by
  simp [State.beginWaiting]
@[simp] theorem State.beginWaiting_lines (s : State) (z : Fin 8) (j : Job) (rest : List Job) : (s.beginWaiting z j rest).lines = s.lines := by
  simp [State.beginWaiting]
@[simp] theorem State.beginWaiting_capture (s : State) (z : Fin 8) (j : Job) (rest : List Job) : (s.beginWaiting z j rest).capture = s.capture := by
  simp [State.beginWaiting]
@[simp] theorem State.beginWaiting_notices (s : State) (z : Fin 8) (j : Job) (rest : List Job) : (s.beginWaiting z j rest).notices = s.notices := by
  simp [State.beginWaiting]
@[simp] theorem State.beginWaiting_freeCount (s : State) (z : Fin 8) (j : Job) (rest : List Job) : (s.beginWaiting z j rest).freeCount = s.freeCount := by
  simp [State.beginWaiting]
@[simp] theorem State.beginWaiting_pending (s : State) (z : Fin 8) (j : Job) (rest : List Job) : (s.beginWaiting z j rest).pending = s.pending := by
  simp [State.beginWaiting]
@[simp] theorem State.template_beginWaiting (s : State) (z : Fin 8) (j : Job) (rest : List Job) (i : Fin 64) : (s.beginWaiting z j rest).template i = s.template i := by
  simp [State.template, State.slot]

@[simp] theorem State.activateHead_ticks (s : State) (z : Fin 8) : (s.activateHead z).ticks = s.ticks := by
  unfold State.activateHead; split <;> (try split) <;> simp
@[simp] theorem State.activateHead_assertedReset (s : State) (z : Fin 8) : (s.activateHead z).assertedReset = s.assertedReset := by
  unfold State.activateHead; split <;> (try split) <;> simp
@[simp] theorem State.activateHead_supply (s : State) (z : Fin 8) : (s.activateHead z).supply = s.supply := by
  unfold State.activateHead; split <;> (try split) <;> simp
@[simp] theorem State.activateHead_pins (s : State) (z : Fin 8) : (s.activateHead z).pins = s.pins := by
  unfold State.activateHead; split <;> (try split) <;> simp
@[simp] theorem State.activateHead_port (s : State) (z : Fin 8) : (s.activateHead z).port = s.port := by
  unfold State.activateHead; split <;> (try split) <;> simp
@[simp] theorem State.activateHead_generators (s : State) (z : Fin 8) : (s.activateHead z).generators = s.generators := by
  unfold State.activateHead; split <;> (try split) <;> simp
@[simp] theorem State.activateHead_lines (s : State) (z : Fin 8) : (s.activateHead z).lines = s.lines := by
  unfold State.activateHead; split <;> (try split) <;> simp
@[simp] theorem State.activateHead_capture (s : State) (z : Fin 8) : (s.activateHead z).capture = s.capture := by
  unfold State.activateHead; split <;> (try split) <;> simp
@[simp] theorem State.activateHead_notices (s : State) (z : Fin 8) : (s.activateHead z).notices = s.notices := by
  unfold State.activateHead; split <;> (try split) <;> simp
@[simp] theorem State.activateHead_freeCount (s : State) (z : Fin 8) : (s.activateHead z).freeCount = s.freeCount := by
  unfold State.activateHead; split <;> (try split) <;> simp
@[simp] theorem State.activateHead_pending (s : State) (z : Fin 8) : (s.activateHead z).pending = s.pending := by
  unfold State.activateHead; split <;> (try split) <;> simp
@[simp] theorem State.template_activateHead (s : State) (z : Fin 8) (i : Fin 64) : (s.activateHead z).template i = s.template i := by
  unfold State.activateHead; split <;> (try split) <;> simp

@[simp] theorem State.activations_ticks (n : Nat) (z : Fin 8) (s : State) : (State.activations n z s).ticks = s.ticks := by
  induction n generalizing s with
  | zero => rfl
  | succ n ih => unfold State.activations; split <;> simp [ih]
@[simp] theorem State.activations_assertedReset (n : Nat) (z : Fin 8) (s : State) : (State.activations n z s).assertedReset = s.assertedReset := by
  induction n generalizing s with
  | zero => rfl
  | succ n ih => unfold State.activations; split <;> simp [ih]
@[simp] theorem State.activations_supply (n : Nat) (z : Fin 8) (s : State) : (State.activations n z s).supply = s.supply := by
  induction n generalizing s with
  | zero => rfl
  | succ n ih => unfold State.activations; split <;> simp [ih]
@[simp] theorem State.activations_pins (n : Nat) (z : Fin 8) (s : State) : (State.activations n z s).pins = s.pins := by
  induction n generalizing s with
  | zero => rfl
  | succ n ih => unfold State.activations; split <;> simp [ih]
@[simp] theorem State.activations_port (n : Nat) (z : Fin 8) (s : State) : (State.activations n z s).port = s.port := by
  induction n generalizing s with
  | zero => rfl
  | succ n ih => unfold State.activations; split <;> simp [ih]
@[simp] theorem State.activations_generators (n : Nat) (z : Fin 8) (s : State) : (State.activations n z s).generators = s.generators := by
  induction n generalizing s with
  | zero => rfl
  | succ n ih => unfold State.activations; split <;> simp [ih]
@[simp] theorem State.activations_lines (n : Nat) (z : Fin 8) (s : State) : (State.activations n z s).lines = s.lines := by
  induction n generalizing s with
  | zero => rfl
  | succ n ih => unfold State.activations; split <;> simp [ih]
@[simp] theorem State.activations_capture (n : Nat) (z : Fin 8) (s : State) : (State.activations n z s).capture = s.capture := by
  induction n generalizing s with
  | zero => rfl
  | succ n ih => unfold State.activations; split <;> simp [ih]
@[simp] theorem State.activations_notices (n : Nat) (z : Fin 8) (s : State) : (State.activations n z s).notices = s.notices := by
  induction n generalizing s with
  | zero => rfl
  | succ n ih => unfold State.activations; split <;> simp [ih]
@[simp] theorem State.activations_freeCount (n : Nat) (z : Fin 8) (s : State) : (State.activations n z s).freeCount = s.freeCount := by
  induction n generalizing s with
  | zero => rfl
  | succ n ih => unfold State.activations; split <;> simp [ih]
@[simp] theorem State.activations_pending (n : Nat) (z : Fin 8) (s : State) : (State.activations n z s).pending = s.pending := by
  induction n generalizing s with
  | zero => rfl
  | succ n ih => unfold State.activations; split <;> simp [ih]
@[simp] theorem State.template_activations (n : Nat) (z : Fin 8) (s : State) (i : Fin 64) :
    (State.activations n z s).template i = s.template i := by
  induction n generalizing s with
  | zero => rfl
  | succ n ih => unfold State.activations; split <;> simp [ih]

@[simp] theorem State.considerActivation_ticks (s : State) (z : Fin 8) : (s.considerActivation z).ticks = s.ticks := by
  simp [State.considerActivation]
@[simp] theorem State.considerActivation_assertedReset (s : State) (z : Fin 8) : (s.considerActivation z).assertedReset = s.assertedReset := by
  simp [State.considerActivation]
@[simp] theorem State.considerActivation_supply (s : State) (z : Fin 8) : (s.considerActivation z).supply = s.supply := by
  simp [State.considerActivation]
@[simp] theorem State.considerActivation_pins (s : State) (z : Fin 8) : (s.considerActivation z).pins = s.pins := by
  simp [State.considerActivation]
@[simp] theorem State.considerActivation_port (s : State) (z : Fin 8) : (s.considerActivation z).port = s.port := by
  simp [State.considerActivation]
@[simp] theorem State.considerActivation_generators (s : State) (z : Fin 8) : (s.considerActivation z).generators = s.generators := by
  simp [State.considerActivation]
@[simp] theorem State.considerActivation_lines (s : State) (z : Fin 8) : (s.considerActivation z).lines = s.lines := by
  simp [State.considerActivation]
@[simp] theorem State.considerActivation_capture (s : State) (z : Fin 8) : (s.considerActivation z).capture = s.capture := by
  simp [State.considerActivation]
@[simp] theorem State.considerActivation_notices (s : State) (z : Fin 8) : (s.considerActivation z).notices = s.notices := by
  simp [State.considerActivation]
@[simp] theorem State.considerActivation_freeCount (s : State) (z : Fin 8) : (s.considerActivation z).freeCount = s.freeCount := by
  simp [State.considerActivation]
@[simp] theorem State.considerActivation_pending (s : State) (z : Fin 8) : (s.considerActivation z).pending = s.pending := by
  simp [State.considerActivation]
@[simp] theorem State.template_considerActivation (s : State) (z : Fin 8) (i : Fin 64) : (s.considerActivation z).template i = s.template i := by
  simp [State.considerActivation]

@[simp] theorem State.enqueue_ticks (s : State) (z : Fin 8) (j : Job) : (s.enqueue z j).ticks = s.ticks := by
  simp [State.enqueue]
@[simp] theorem State.enqueue_assertedReset (s : State) (z : Fin 8) (j : Job) : (s.enqueue z j).assertedReset = s.assertedReset := by
  simp [State.enqueue]
@[simp] theorem State.enqueue_supply (s : State) (z : Fin 8) (j : Job) : (s.enqueue z j).supply = s.supply := by
  simp [State.enqueue]
@[simp] theorem State.enqueue_pins (s : State) (z : Fin 8) (j : Job) : (s.enqueue z j).pins = s.pins := by
  simp [State.enqueue]
@[simp] theorem State.enqueue_port (s : State) (z : Fin 8) (j : Job) : (s.enqueue z j).port = s.port := by
  simp [State.enqueue]
@[simp] theorem State.enqueue_generators (s : State) (z : Fin 8) (j : Job) : (s.enqueue z j).generators = s.generators := by
  simp [State.enqueue]
@[simp] theorem State.enqueue_lines (s : State) (z : Fin 8) (j : Job) : (s.enqueue z j).lines = s.lines := by
  simp [State.enqueue]
@[simp] theorem State.enqueue_capture (s : State) (z : Fin 8) (j : Job) : (s.enqueue z j).capture = s.capture := by
  simp [State.enqueue]
@[simp] theorem State.enqueue_notices (s : State) (z : Fin 8) (j : Job) : (s.enqueue z j).notices = s.notices := by
  simp [State.enqueue]
@[simp] theorem State.enqueue_freeCount (s : State) (z : Fin 8) (j : Job) : (s.enqueue z j).freeCount = s.freeCount := by
  simp [State.enqueue]
@[simp] theorem State.enqueue_pending (s : State) (z : Fin 8) (j : Job) : (s.enqueue z j).pending = s.pending := by
  simp [State.enqueue]
@[simp] theorem State.template_enqueue (s : State) (z : Fin 8) (j : Job) (i : Fin 64) : (s.enqueue z j).template i = s.template i := by
  simp [State.enqueue]

@[simp] theorem State.takeHead_ticks (s : State) (z : Fin 8) : (s.takeHead z).ticks = s.ticks := by
  simp [State.takeHead]
@[simp] theorem State.takeHead_assertedReset (s : State) (z : Fin 8) : (s.takeHead z).assertedReset = s.assertedReset := by
  simp [State.takeHead]
@[simp] theorem State.takeHead_supply (s : State) (z : Fin 8) : (s.takeHead z).supply = s.supply := by
  simp [State.takeHead]
@[simp] theorem State.takeHead_pins (s : State) (z : Fin 8) : (s.takeHead z).pins = s.pins := by
  simp [State.takeHead]
@[simp] theorem State.takeHead_port (s : State) (z : Fin 8) : (s.takeHead z).port = s.port := by
  simp [State.takeHead]
@[simp] theorem State.takeHead_generators (s : State) (z : Fin 8) : (s.takeHead z).generators = s.generators := by
  simp [State.takeHead]
@[simp] theorem State.takeHead_lines (s : State) (z : Fin 8) : (s.takeHead z).lines = s.lines := by
  simp [State.takeHead]
@[simp] theorem State.takeHead_capture (s : State) (z : Fin 8) : (s.takeHead z).capture = s.capture := by
  simp [State.takeHead]
@[simp] theorem State.takeHead_notices (s : State) (z : Fin 8) : (s.takeHead z).notices = s.notices := by
  simp [State.takeHead]
@[simp] theorem State.takeHead_freeCount (s : State) (z : Fin 8) : (s.takeHead z).freeCount = s.freeCount := by
  simp [State.takeHead]
@[simp] theorem State.takeHead_pending (s : State) (z : Fin 8) : (s.takeHead z).pending = s.pending := by
  simp [State.takeHead]
@[simp] theorem State.template_takeHead (s : State) (z : Fin 8) (i : Fin 64) : (s.takeHead z).template i = s.template i := by
  simp [State.takeHead]

@[simp] theorem State.startFrame_ticks (s : State) (z : Fin 8) : (s.startFrame z).ticks = s.ticks := by
  unfold State.startFrame; split <;> simp
@[simp] theorem State.startFrame_assertedReset (s : State) (z : Fin 8) : (s.startFrame z).assertedReset = s.assertedReset := by
  unfold State.startFrame; split <;> simp
@[simp] theorem State.startFrame_supply (s : State) (z : Fin 8) : (s.startFrame z).supply = s.supply := by
  unfold State.startFrame; split <;> simp
@[simp] theorem State.startFrame_pins (s : State) (z : Fin 8) : (s.startFrame z).pins = s.pins := by
  unfold State.startFrame; split <;> simp
@[simp] theorem State.startFrame_port (s : State) (z : Fin 8) : (s.startFrame z).port = s.port := by
  unfold State.startFrame; split <;> simp
@[simp] theorem State.startFrame_library (s : State) (z : Fin 8) : (s.startFrame z).library = s.library := by
  unfold State.startFrame; split <;> simp
@[simp] theorem State.startFrame_arbiter (s : State) (z : Fin 8) : (s.startFrame z).arbiter = s.arbiter := by
  unfold State.startFrame; split <;> simp
@[simp] theorem State.startFrame_generators (s : State) (z : Fin 8) : (s.startFrame z).generators = s.generators := by
  unfold State.startFrame; split <;> simp
@[simp] theorem State.startFrame_lines (s : State) (z : Fin 8) : (s.startFrame z).lines = s.lines := by
  unfold State.startFrame; split <;> simp
@[simp] theorem State.startFrame_capture (s : State) (z : Fin 8) : (s.startFrame z).capture = s.capture := by
  unfold State.startFrame; split <;> simp
@[simp] theorem State.startFrame_notices (s : State) (z : Fin 8) : (s.startFrame z).notices = s.notices := by
  unfold State.startFrame; split <;> simp
@[simp] theorem State.startFrame_freeCount (s : State) (z : Fin 8) : (s.startFrame z).freeCount = s.freeCount := by
  unfold State.startFrame; split <;> simp
@[simp] theorem State.startFrame_pending (s : State) (z : Fin 8) : (s.startFrame z).pending = s.pending := by
  unfold State.startFrame; split <;> simp
@[simp] theorem State.template_startFrame (s : State) (z : Fin 8) (i : Fin 64) : (s.startFrame z).template i = s.template i := by
  simp [State.template, State.slot]

@[simp] theorem State.openGate_ticks (s : State) (z : Fin 8) : (s.openGate z).ticks = s.ticks := by
  unfold State.openGate; split <;> (try split) <;> (try split) <;> simp
@[simp] theorem State.openGate_assertedReset (s : State) (z : Fin 8) : (s.openGate z).assertedReset = s.assertedReset := by
  unfold State.openGate; split <;> (try split) <;> (try split) <;> simp
@[simp] theorem State.openGate_supply (s : State) (z : Fin 8) : (s.openGate z).supply = s.supply := by
  unfold State.openGate; split <;> (try split) <;> (try split) <;> simp
@[simp] theorem State.openGate_pins (s : State) (z : Fin 8) : (s.openGate z).pins = s.pins := by
  unfold State.openGate; split <;> (try split) <;> (try split) <;> simp
@[simp] theorem State.openGate_port (s : State) (z : Fin 8) : (s.openGate z).port = s.port := by
  unfold State.openGate; split <;> (try split) <;> (try split) <;> simp
@[simp] theorem State.openGate_library (s : State) (z : Fin 8) : (s.openGate z).library = s.library := by
  unfold State.openGate; split <;> (try split) <;> (try split) <;> simp
@[simp] theorem State.openGate_arbiter (s : State) (z : Fin 8) : (s.openGate z).arbiter = s.arbiter := by
  unfold State.openGate; split <;> (try split) <;> (try split) <;> simp
@[simp] theorem State.openGate_generators (s : State) (z : Fin 8) : (s.openGate z).generators = s.generators := by
  unfold State.openGate; split <;> (try split) <;> (try split) <;> simp
@[simp] theorem State.openGate_lines (s : State) (z : Fin 8) : (s.openGate z).lines = s.lines := by
  unfold State.openGate; split <;> (try split) <;> (try split) <;> simp
@[simp] theorem State.openGate_capture (s : State) (z : Fin 8) : (s.openGate z).capture = s.capture := by
  unfold State.openGate; split <;> (try split) <;> (try split) <;> simp
@[simp] theorem State.openGate_notices (s : State) (z : Fin 8) : (s.openGate z).notices = s.notices := by
  unfold State.openGate; split <;> (try split) <;> (try split) <;> simp
@[simp] theorem State.openGate_freeCount (s : State) (z : Fin 8) : (s.openGate z).freeCount = s.freeCount := by
  unfold State.openGate; split <;> (try split) <;> (try split) <;> simp
@[simp] theorem State.openGate_pending (s : State) (z : Fin 8) : (s.openGate z).pending = s.pending := by
  unfold State.openGate; split <;> (try split) <;> (try split) <;> simp
@[simp] theorem State.template_openGate (s : State) (z : Fin 8) (i : Fin 64) : (s.openGate z).template i = s.template i := by
  simp [State.template, State.slot]

@[simp] theorem State.gateMoved_ticks (s : State) (z : Fin 8) (w : Bool) : (s.gateMoved z w).ticks = s.ticks := by
  unfold State.gateMoved; split <;> (try split) <;> simp
@[simp] theorem State.gateMoved_assertedReset (s : State) (z : Fin 8) (w : Bool) : (s.gateMoved z w).assertedReset = s.assertedReset := by
  unfold State.gateMoved; split <;> (try split) <;> simp
@[simp] theorem State.gateMoved_supply (s : State) (z : Fin 8) (w : Bool) : (s.gateMoved z w).supply = s.supply := by
  unfold State.gateMoved; split <;> (try split) <;> simp
@[simp] theorem State.gateMoved_pins (s : State) (z : Fin 8) (w : Bool) : (s.gateMoved z w).pins = s.pins := by
  unfold State.gateMoved; split <;> (try split) <;> simp
@[simp] theorem State.gateMoved_port (s : State) (z : Fin 8) (w : Bool) : (s.gateMoved z w).port = s.port := by
  unfold State.gateMoved; split <;> (try split) <;> simp
@[simp] theorem State.gateMoved_library (s : State) (z : Fin 8) (w : Bool) : (s.gateMoved z w).library = s.library := by
  unfold State.gateMoved; split <;> (try split) <;> simp
@[simp] theorem State.gateMoved_arbiter (s : State) (z : Fin 8) (w : Bool) : (s.gateMoved z w).arbiter = s.arbiter := by
  unfold State.gateMoved; split <;> (try split) <;> simp
@[simp] theorem State.gateMoved_generators (s : State) (z : Fin 8) (w : Bool) : (s.gateMoved z w).generators = s.generators := by
  unfold State.gateMoved; split <;> (try split) <;> simp
@[simp] theorem State.gateMoved_lines (s : State) (z : Fin 8) (w : Bool) : (s.gateMoved z w).lines = s.lines := by
  unfold State.gateMoved; split <;> (try split) <;> simp
@[simp] theorem State.gateMoved_capture (s : State) (z : Fin 8) (w : Bool) : (s.gateMoved z w).capture = s.capture := by
  unfold State.gateMoved; split <;> (try split) <;> simp
@[simp] theorem State.gateMoved_notices (s : State) (z : Fin 8) (w : Bool) : (s.gateMoved z w).notices = s.notices := by
  unfold State.gateMoved; split <;> (try split) <;> simp
@[simp] theorem State.gateMoved_freeCount (s : State) (z : Fin 8) (w : Bool) : (s.gateMoved z w).freeCount = s.freeCount := by
  unfold State.gateMoved; split <;> (try split) <;> simp
@[simp] theorem State.gateMoved_pending (s : State) (z : Fin 8) (w : Bool) : (s.gateMoved z w).pending = s.pending := by
  unfold State.gateMoved; split <;> (try split) <;> simp
@[simp] theorem State.template_gateMoved (s : State) (z : Fin 8) (w : Bool) (i : Fin 64) : (s.gateMoved z w).template i = s.template i := by
  simp [State.template, State.slot]

@[simp] theorem State.decideAgain_ticks (s : State) (z : Fin 8) : (s.decideAgain z).ticks = s.ticks := by
  unfold State.decideAgain; split <;> (try split) <;> (try split) <;> (try split) <;> simp
@[simp] theorem State.decideAgain_assertedReset (s : State) (z : Fin 8) : (s.decideAgain z).assertedReset = s.assertedReset := by
  unfold State.decideAgain; split <;> (try split) <;> (try split) <;> (try split) <;> simp
@[simp] theorem State.decideAgain_supply (s : State) (z : Fin 8) : (s.decideAgain z).supply = s.supply := by
  unfold State.decideAgain; split <;> (try split) <;> (try split) <;> (try split) <;> simp
@[simp] theorem State.decideAgain_pins (s : State) (z : Fin 8) : (s.decideAgain z).pins = s.pins := by
  unfold State.decideAgain; split <;> (try split) <;> (try split) <;> (try split) <;> simp
@[simp] theorem State.decideAgain_port (s : State) (z : Fin 8) : (s.decideAgain z).port = s.port := by
  unfold State.decideAgain; split <;> (try split) <;> (try split) <;> (try split) <;> simp
@[simp] theorem State.decideAgain_lines (s : State) (z : Fin 8) : (s.decideAgain z).lines = s.lines := by
  unfold State.decideAgain; split <;> (try split) <;> (try split) <;> (try split) <;> simp
@[simp] theorem State.decideAgain_capture (s : State) (z : Fin 8) : (s.decideAgain z).capture = s.capture := by
  unfold State.decideAgain; split <;> (try split) <;> (try split) <;> (try split) <;> simp
@[simp] theorem State.decideAgain_notices (s : State) (z : Fin 8) : (s.decideAgain z).notices = s.notices := by
  unfold State.decideAgain; split <;> (try split) <;> (try split) <;> (try split) <;> simp
@[simp] theorem State.decideAgain_freeCount (s : State) (z : Fin 8) : (s.decideAgain z).freeCount = s.freeCount := by
  unfold State.decideAgain; split <;> (try split) <;> (try split) <;> (try split) <;> simp
@[simp] theorem State.decideAgain_pending (s : State) (z : Fin 8) : (s.decideAgain z).pending = s.pending := by
  unfold State.decideAgain; split <;> (try split) <;> (try split) <;> (try split) <;> simp
@[simp] theorem State.template_decideAgain (s : State) (z : Fin 8) (i : Fin 64) : (s.decideAgain z).template i = s.template i := by
  unfold State.decideAgain; split <;> (try split) <;> (try split) <;> (try split) <;> simp

@[simp] theorem State.obtain_ticks (s : State) (g : Fin 4) (c : Setting) (z : Fin 8) : (s.obtain g c z).ticks = s.ticks := by
  simp [State.obtain]
@[simp] theorem State.obtain_assertedReset (s : State) (g : Fin 4) (c : Setting) (z : Fin 8) : (s.obtain g c z).assertedReset = s.assertedReset := by
  simp [State.obtain]
@[simp] theorem State.obtain_supply (s : State) (g : Fin 4) (c : Setting) (z : Fin 8) : (s.obtain g c z).supply = s.supply := by
  simp [State.obtain]
@[simp] theorem State.obtain_pins (s : State) (g : Fin 4) (c : Setting) (z : Fin 8) : (s.obtain g c z).pins = s.pins := by
  simp [State.obtain]
@[simp] theorem State.obtain_port (s : State) (g : Fin 4) (c : Setting) (z : Fin 8) : (s.obtain g c z).port = s.port := by
  simp [State.obtain]
@[simp] theorem State.obtain_library (s : State) (g : Fin 4) (c : Setting) (z : Fin 8) : (s.obtain g c z).library = s.library := by
  simp [State.obtain]
@[simp] theorem State.obtain_zones (s : State) (g : Fin 4) (c : Setting) (z : Fin 8) : (s.obtain g c z).zones = s.zones := by
  simp [State.obtain]
@[simp] theorem State.obtain_arbiter (s : State) (g : Fin 4) (c : Setting) (z : Fin 8) : (s.obtain g c z).arbiter = s.arbiter := by
  simp [State.obtain]
@[simp] theorem State.obtain_lines (s : State) (g : Fin 4) (c : Setting) (z : Fin 8) : (s.obtain g c z).lines = s.lines := by
  simp [State.obtain]
@[simp] theorem State.obtain_capture (s : State) (g : Fin 4) (c : Setting) (z : Fin 8) : (s.obtain g c z).capture = s.capture := by
  simp [State.obtain]
@[simp] theorem State.obtain_notices (s : State) (g : Fin 4) (c : Setting) (z : Fin 8) : (s.obtain g c z).notices = s.notices := by
  simp [State.obtain]
@[simp] theorem State.obtain_freeCount (s : State) (g : Fin 4) (c : Setting) (z : Fin 8) : (s.obtain g c z).freeCount = s.freeCount := by
  simp [State.obtain]
@[simp] theorem State.obtain_pending (s : State) (g : Fin 4) (c : Setting) (z : Fin 8) : (s.obtain g c z).pending = s.pending := by
  simp [State.obtain]
@[simp] theorem State.template_obtain (s : State) (g : Fin 4) (c : Setting) (z : Fin 8) (i : Fin 64) : (s.obtain g c z).template i = s.template i := by
  simp [State.template, State.slot]

@[simp] theorem State.grant_ticks (s : State) (z : Fin 8) (b : Option (Fin 4)) : (s.grant z b).ticks = s.ticks := by
  simp [State.grant]
@[simp] theorem State.grant_assertedReset (s : State) (z : Fin 8) (b : Option (Fin 4)) : (s.grant z b).assertedReset = s.assertedReset := by
  simp [State.grant]
@[simp] theorem State.grant_supply (s : State) (z : Fin 8) (b : Option (Fin 4)) : (s.grant z b).supply = s.supply := by
  simp [State.grant]
@[simp] theorem State.grant_pins (s : State) (z : Fin 8) (b : Option (Fin 4)) : (s.grant z b).pins = s.pins := by
  simp [State.grant]
@[simp] theorem State.grant_port (s : State) (z : Fin 8) (b : Option (Fin 4)) : (s.grant z b).port = s.port := by
  simp [State.grant]
@[simp] theorem State.grant_library (s : State) (z : Fin 8) (b : Option (Fin 4)) : (s.grant z b).library = s.library := by
  simp [State.grant]
@[simp] theorem State.grant_generators (s : State) (z : Fin 8) (b : Option (Fin 4)) : (s.grant z b).generators = s.generators := by
  simp [State.grant]
@[simp] theorem State.grant_lines (s : State) (z : Fin 8) (b : Option (Fin 4)) : (s.grant z b).lines = s.lines := by
  simp [State.grant]
@[simp] theorem State.grant_capture (s : State) (z : Fin 8) (b : Option (Fin 4)) : (s.grant z b).capture = s.capture := by
  simp [State.grant]
@[simp] theorem State.grant_notices (s : State) (z : Fin 8) (b : Option (Fin 4)) : (s.grant z b).notices = s.notices := by
  simp [State.grant]
@[simp] theorem State.grant_freeCount (s : State) (z : Fin 8) (b : Option (Fin 4)) : (s.grant z b).freeCount = s.freeCount := by
  simp [State.grant]
@[simp] theorem State.grant_pending (s : State) (z : Fin 8) (b : Option (Fin 4)) : (s.grant z b).pending = s.pending := by
  simp [State.grant]
@[simp] theorem State.template_grant (s : State) (z : Fin 8) (b : Option (Fin 4)) (i : Fin 64) : (s.grant z b).template i = s.template i := by
  simp [State.template, State.slot]

@[simp] theorem State.visit_ticks (s : State) (z : Fin 8) : (s.visit z).ticks = s.ticks := by
  unfold State.visit; split <;> (try split) <;> (try split) <;> (try split) <;> simp
@[simp] theorem State.visit_assertedReset (s : State) (z : Fin 8) : (s.visit z).assertedReset = s.assertedReset := by
  unfold State.visit; split <;> (try split) <;> (try split) <;> (try split) <;> simp
@[simp] theorem State.visit_supply (s : State) (z : Fin 8) : (s.visit z).supply = s.supply := by
  unfold State.visit; split <;> (try split) <;> (try split) <;> (try split) <;> simp
@[simp] theorem State.visit_pins (s : State) (z : Fin 8) : (s.visit z).pins = s.pins := by
  unfold State.visit; split <;> (try split) <;> (try split) <;> (try split) <;> simp
@[simp] theorem State.visit_port (s : State) (z : Fin 8) : (s.visit z).port = s.port := by
  unfold State.visit; split <;> (try split) <;> (try split) <;> (try split) <;> simp
@[simp] theorem State.visit_library (s : State) (z : Fin 8) : (s.visit z).library = s.library := by
  unfold State.visit; split <;> (try split) <;> (try split) <;> (try split) <;> simp
@[simp] theorem State.visit_lines (s : State) (z : Fin 8) : (s.visit z).lines = s.lines := by
  unfold State.visit; split <;> (try split) <;> (try split) <;> (try split) <;> simp
@[simp] theorem State.visit_capture (s : State) (z : Fin 8) : (s.visit z).capture = s.capture := by
  unfold State.visit; split <;> (try split) <;> (try split) <;> (try split) <;> simp
@[simp] theorem State.visit_notices (s : State) (z : Fin 8) : (s.visit z).notices = s.notices := by
  unfold State.visit; split <;> (try split) <;> (try split) <;> (try split) <;> simp
@[simp] theorem State.visit_freeCount (s : State) (z : Fin 8) : (s.visit z).freeCount = s.freeCount := by
  unfold State.visit; split <;> (try split) <;> (try split) <;> (try split) <;> simp
@[simp] theorem State.visit_pending (s : State) (z : Fin 8) : (s.visit z).pending = s.pending := by
  unfold State.visit; split <;> (try split) <;> (try split) <;> (try split) <;> simp
@[simp] theorem State.template_visit (s : State) (z : Fin 8) (i : Fin 64) : (s.visit z).template i = s.template i := by
  simp [State.template, State.slot]

@[simp] theorem State.walk_ticks (s : State) (zs : List (Fin 8)) : (s.walk zs).ticks = s.ticks := by
  induction zs generalizing s with
  | nil => rfl
  | cons _ _ ih => exact (ih _).trans (by simp)
@[simp] theorem State.walk_assertedReset (s : State) (zs : List (Fin 8)) : (s.walk zs).assertedReset = s.assertedReset := by
  induction zs generalizing s with
  | nil => rfl
  | cons _ _ ih => exact (ih _).trans (by simp)
@[simp] theorem State.walk_supply (s : State) (zs : List (Fin 8)) : (s.walk zs).supply = s.supply := by
  induction zs generalizing s with
  | nil => rfl
  | cons _ _ ih => exact (ih _).trans (by simp)
@[simp] theorem State.walk_pins (s : State) (zs : List (Fin 8)) : (s.walk zs).pins = s.pins := by
  induction zs generalizing s with
  | nil => rfl
  | cons _ _ ih => exact (ih _).trans (by simp)
@[simp] theorem State.walk_port (s : State) (zs : List (Fin 8)) : (s.walk zs).port = s.port := by
  induction zs generalizing s with
  | nil => rfl
  | cons _ _ ih => exact (ih _).trans (by simp)
@[simp] theorem State.walk_library (s : State) (zs : List (Fin 8)) : (s.walk zs).library = s.library := by
  induction zs generalizing s with
  | nil => rfl
  | cons _ _ ih => exact (ih _).trans (by simp)
@[simp] theorem State.walk_lines (s : State) (zs : List (Fin 8)) : (s.walk zs).lines = s.lines := by
  induction zs generalizing s with
  | nil => rfl
  | cons _ _ ih => exact (ih _).trans (by simp)
@[simp] theorem State.walk_capture (s : State) (zs : List (Fin 8)) : (s.walk zs).capture = s.capture := by
  induction zs generalizing s with
  | nil => rfl
  | cons _ _ ih => exact (ih _).trans (by simp)
@[simp] theorem State.walk_notices (s : State) (zs : List (Fin 8)) : (s.walk zs).notices = s.notices := by
  induction zs generalizing s with
  | nil => rfl
  | cons _ _ ih => exact (ih _).trans (by simp)
@[simp] theorem State.walk_freeCount (s : State) (zs : List (Fin 8)) : (s.walk zs).freeCount = s.freeCount := by
  induction zs generalizing s with
  | nil => rfl
  | cons _ _ ih => exact (ih _).trans (by simp)
@[simp] theorem State.walk_pending (s : State) (zs : List (Fin 8)) : (s.walk zs).pending = s.pending := by
  induction zs generalizing s with
  | nil => rfl
  | cons _ _ ih => exact (ih _).trans (by simp)
@[simp] theorem State.template_walk (s : State) (zs : List (Fin 8)) (i : Fin 64) : (s.walk zs).template i = s.template i := by
  simp [State.template, State.slot]

@[simp] theorem State.driverFault_ticks (s : State) (z : Fin 8) (k : FaultKind) : (s.driverFault z k).ticks = s.ticks := by
  simp [State.driverFault]
@[simp] theorem State.driverFault_assertedReset (s : State) (z : Fin 8) (k : FaultKind) : (s.driverFault z k).assertedReset = s.assertedReset := by
  simp [State.driverFault]
@[simp] theorem State.driverFault_supply (s : State) (z : Fin 8) (k : FaultKind) : (s.driverFault z k).supply = s.supply := by
  simp [State.driverFault]
@[simp] theorem State.driverFault_pins (s : State) (z : Fin 8) (k : FaultKind) : (s.driverFault z k).pins = s.pins := by
  simp [State.driverFault]
@[simp] theorem State.driverFault_port (s : State) (z : Fin 8) (k : FaultKind) : (s.driverFault z k).port = s.port := by
  simp [State.driverFault]
@[simp] theorem State.driverFault_lines (s : State) (z : Fin 8) (k : FaultKind) : (s.driverFault z k).lines = s.lines := by
  simp [State.driverFault]
@[simp] theorem State.driverFault_capture (s : State) (z : Fin 8) (k : FaultKind) : (s.driverFault z k).capture = s.capture := by
  simp [State.driverFault]
@[simp] theorem State.driverFault_freeCount (s : State) (z : Fin 8) (k : FaultKind) : (s.driverFault z k).freeCount = s.freeCount := by
  simp [State.driverFault]
@[simp] theorem State.driverFault_pending (s : State) (z : Fin 8) (k : FaultKind) : (s.driverFault z k).pending = s.pending := by
  simp [State.driverFault]
@[simp] theorem State.template_driverFault (s : State) (z : Fin 8) (k : FaultKind) (i : Fin 64) : (s.driverFault z k).template i = s.template i := by
  simp [State.driverFault]

@[simp] theorem State.sense_ticks (s : State) (z : Fin 8) : (s.sense z).ticks = s.ticks := by
  unfold State.sense; split <;> (try split) <;> simp
@[simp] theorem State.sense_assertedReset (s : State) (z : Fin 8) : (s.sense z).assertedReset = s.assertedReset := by
  unfold State.sense; split <;> (try split) <;> simp
@[simp] theorem State.sense_supply (s : State) (z : Fin 8) : (s.sense z).supply = s.supply := by
  unfold State.sense; split <;> (try split) <;> simp
@[simp] theorem State.sense_pins (s : State) (z : Fin 8) : (s.sense z).pins = s.pins := by
  unfold State.sense; split <;> (try split) <;> simp
@[simp] theorem State.sense_port (s : State) (z : Fin 8) : (s.sense z).port = s.port := by
  unfold State.sense; split <;> (try split) <;> simp
@[simp] theorem State.sense_lines (s : State) (z : Fin 8) : (s.sense z).lines = s.lines := by
  unfold State.sense; split <;> (try split) <;> simp
@[simp] theorem State.sense_capture (s : State) (z : Fin 8) : (s.sense z).capture = s.capture := by
  unfold State.sense; split <;> (try split) <;> simp
@[simp] theorem State.sense_freeCount (s : State) (z : Fin 8) : (s.sense z).freeCount = s.freeCount := by
  unfold State.sense; split <;> (try split) <;> simp
@[simp] theorem State.sense_pending (s : State) (z : Fin 8) : (s.sense z).pending = s.pending := by
  unfold State.sense; split <;> (try split) <;> simp
@[simp] theorem State.template_sense (s : State) (z : Fin 8) (i : Fin 64) : (s.sense z).template i = s.template i := by
  unfold State.sense; split <;> (try split) <;> simp

@[simp] theorem State.senseAll_ticks (s : State) (zs : List (Fin 8)) : (s.senseAll zs).ticks = s.ticks := by
  induction zs generalizing s with
  | nil => rfl
  | cons _ _ ih => exact (ih _).trans (by simp)
@[simp] theorem State.senseAll_assertedReset (s : State) (zs : List (Fin 8)) : (s.senseAll zs).assertedReset = s.assertedReset := by
  induction zs generalizing s with
  | nil => rfl
  | cons _ _ ih => exact (ih _).trans (by simp)
@[simp] theorem State.senseAll_supply (s : State) (zs : List (Fin 8)) : (s.senseAll zs).supply = s.supply := by
  induction zs generalizing s with
  | nil => rfl
  | cons _ _ ih => exact (ih _).trans (by simp)
@[simp] theorem State.senseAll_pins (s : State) (zs : List (Fin 8)) : (s.senseAll zs).pins = s.pins := by
  induction zs generalizing s with
  | nil => rfl
  | cons _ _ ih => exact (ih _).trans (by simp)
@[simp] theorem State.senseAll_port (s : State) (zs : List (Fin 8)) : (s.senseAll zs).port = s.port := by
  induction zs generalizing s with
  | nil => rfl
  | cons _ _ ih => exact (ih _).trans (by simp)
@[simp] theorem State.senseAll_lines (s : State) (zs : List (Fin 8)) : (s.senseAll zs).lines = s.lines := by
  induction zs generalizing s with
  | nil => rfl
  | cons _ _ ih => exact (ih _).trans (by simp)
@[simp] theorem State.senseAll_capture (s : State) (zs : List (Fin 8)) : (s.senseAll zs).capture = s.capture := by
  induction zs generalizing s with
  | nil => rfl
  | cons _ _ ih => exact (ih _).trans (by simp)
@[simp] theorem State.senseAll_freeCount (s : State) (zs : List (Fin 8)) : (s.senseAll zs).freeCount = s.freeCount := by
  induction zs generalizing s with
  | nil => rfl
  | cons _ _ ih => exact (ih _).trans (by simp)
@[simp] theorem State.senseAll_pending (s : State) (zs : List (Fin 8)) : (s.senseAll zs).pending = s.pending := by
  induction zs generalizing s with
  | nil => rfl
  | cons _ _ ih => exact (ih _).trans (by simp)
@[simp] theorem State.template_senseAll (s : State) (zs : List (Fin 8)) (i : Fin 64) : (s.senseAll zs).template i = s.template i := by
  induction zs generalizing s with
  | nil => rfl
  | cons _ _ ih => exact (ih _).trans (by simp)

@[simp] theorem State.frameEnd_ticks (s : State) (z : Fin 8) (a : ActiveJob) (p : PlayState) : (s.frameEnd z a p).ticks = s.ticks := by
  unfold State.frameEnd; split <;> (try split) <;> (try split) <;> (try split) <;> simp
@[simp] theorem State.frameEnd_assertedReset (s : State) (z : Fin 8) (a : ActiveJob) (p : PlayState) : (s.frameEnd z a p).assertedReset = s.assertedReset := by
  unfold State.frameEnd; split <;> (try split) <;> (try split) <;> (try split) <;> simp
@[simp] theorem State.frameEnd_supply (s : State) (z : Fin 8) (a : ActiveJob) (p : PlayState) : (s.frameEnd z a p).supply = s.supply := by
  unfold State.frameEnd; split <;> (try split) <;> (try split) <;> (try split) <;> simp
@[simp] theorem State.frameEnd_pins (s : State) (z : Fin 8) (a : ActiveJob) (p : PlayState) : (s.frameEnd z a p).pins = s.pins := by
  unfold State.frameEnd; split <;> (try split) <;> (try split) <;> (try split) <;> simp
@[simp] theorem State.frameEnd_port (s : State) (z : Fin 8) (a : ActiveJob) (p : PlayState) : (s.frameEnd z a p).port = s.port := by
  unfold State.frameEnd; split <;> (try split) <;> (try split) <;> (try split) <;> simp
@[simp] theorem State.frameEnd_lines (s : State) (z : Fin 8) (a : ActiveJob) (p : PlayState) : (s.frameEnd z a p).lines = s.lines := by
  unfold State.frameEnd; split <;> (try split) <;> (try split) <;> (try split) <;> simp
@[simp] theorem State.frameEnd_capture (s : State) (z : Fin 8) (a : ActiveJob) (p : PlayState) : (s.frameEnd z a p).capture = s.capture := by
  unfold State.frameEnd; split <;> (try split) <;> (try split) <;> (try split) <;> simp
@[simp] theorem State.frameEnd_notices (s : State) (z : Fin 8) (a : ActiveJob) (p : PlayState) : (s.frameEnd z a p).notices = s.notices := by
  unfold State.frameEnd; split <;> (try split) <;> (try split) <;> (try split) <;> simp
@[simp] theorem State.frameEnd_freeCount (s : State) (z : Fin 8) (a : ActiveJob) (p : PlayState) : (s.frameEnd z a p).freeCount = s.freeCount := by
  unfold State.frameEnd; split <;> (try split) <;> (try split) <;> (try split) <;> simp
@[simp] theorem State.frameEnd_pending (s : State) (z : Fin 8) (a : ActiveJob) (p : PlayState) : (s.frameEnd z a p).pending = s.pending := by
  unfold State.frameEnd; split <;> (try split) <;> (try split) <;> (try split) <;> simp
@[simp] theorem State.template_frameEnd (s : State) (z : Fin 8) (a : ActiveJob) (p : PlayState) (i : Fin 64) : (s.frameEnd z a p).template i = s.template i := by
  unfold State.frameEnd; split <;> (try split) <;> (try split) <;> (try split) <;> simp

@[simp] theorem State.phaseOver_ticks (s : State) (z : Fin 8) (a : ActiveJob) (p : PlayState) : (s.phaseOver z a p).ticks = s.ticks := by
  unfold State.phaseOver; split <;> simp
@[simp] theorem State.phaseOver_assertedReset (s : State) (z : Fin 8) (a : ActiveJob) (p : PlayState) : (s.phaseOver z a p).assertedReset = s.assertedReset := by
  unfold State.phaseOver; split <;> simp
@[simp] theorem State.phaseOver_supply (s : State) (z : Fin 8) (a : ActiveJob) (p : PlayState) : (s.phaseOver z a p).supply = s.supply := by
  unfold State.phaseOver; split <;> simp
@[simp] theorem State.phaseOver_pins (s : State) (z : Fin 8) (a : ActiveJob) (p : PlayState) : (s.phaseOver z a p).pins = s.pins := by
  unfold State.phaseOver; split <;> simp
@[simp] theorem State.phaseOver_port (s : State) (z : Fin 8) (a : ActiveJob) (p : PlayState) : (s.phaseOver z a p).port = s.port := by
  unfold State.phaseOver; split <;> simp
@[simp] theorem State.phaseOver_lines (s : State) (z : Fin 8) (a : ActiveJob) (p : PlayState) : (s.phaseOver z a p).lines = s.lines := by
  unfold State.phaseOver; split <;> simp
@[simp] theorem State.phaseOver_capture (s : State) (z : Fin 8) (a : ActiveJob) (p : PlayState) : (s.phaseOver z a p).capture = s.capture := by
  unfold State.phaseOver; split <;> simp
@[simp] theorem State.phaseOver_notices (s : State) (z : Fin 8) (a : ActiveJob) (p : PlayState) : (s.phaseOver z a p).notices = s.notices := by
  unfold State.phaseOver; split <;> simp
@[simp] theorem State.phaseOver_freeCount (s : State) (z : Fin 8) (a : ActiveJob) (p : PlayState) : (s.phaseOver z a p).freeCount = s.freeCount := by
  unfold State.phaseOver; split <;> simp
@[simp] theorem State.phaseOver_pending (s : State) (z : Fin 8) (a : ActiveJob) (p : PlayState) : (s.phaseOver z a p).pending = s.pending := by
  unfold State.phaseOver; split <;> simp
@[simp] theorem State.template_phaseOver (s : State) (z : Fin 8) (a : ActiveJob) (p : PlayState) (i : Fin 64) : (s.phaseOver z a p).template i = s.template i := by
  unfold State.phaseOver; split <;> simp

@[simp] theorem State.releaseActive_ticks (s : State) (z : Fin 8) : (s.releaseActive z).ticks = s.ticks := by
  simp [State.releaseActive]
@[simp] theorem State.releaseActive_assertedReset (s : State) (z : Fin 8) : (s.releaseActive z).assertedReset = s.assertedReset := by
  simp [State.releaseActive]
@[simp] theorem State.releaseActive_supply (s : State) (z : Fin 8) : (s.releaseActive z).supply = s.supply := by
  simp [State.releaseActive]
@[simp] theorem State.releaseActive_pins (s : State) (z : Fin 8) : (s.releaseActive z).pins = s.pins := by
  simp [State.releaseActive]
@[simp] theorem State.releaseActive_port (s : State) (z : Fin 8) : (s.releaseActive z).port = s.port := by
  simp [State.releaseActive]
@[simp] theorem State.releaseActive_lines (s : State) (z : Fin 8) : (s.releaseActive z).lines = s.lines := by
  simp [State.releaseActive]
@[simp] theorem State.releaseActive_capture (s : State) (z : Fin 8) : (s.releaseActive z).capture = s.capture := by
  simp [State.releaseActive]
@[simp] theorem State.releaseActive_notices (s : State) (z : Fin 8) : (s.releaseActive z).notices = s.notices := by
  simp [State.releaseActive]
@[simp] theorem State.releaseActive_freeCount (s : State) (z : Fin 8) : (s.releaseActive z).freeCount = s.freeCount := by
  simp [State.releaseActive]
@[simp] theorem State.releaseActive_pending (s : State) (z : Fin 8) : (s.releaseActive z).pending = s.pending := by
  simp [State.releaseActive]
@[simp] theorem State.template_releaseActive (s : State) (z : Fin 8) (i : Fin 64) : (s.releaseActive z).template i = s.template i := by
  simp [State.releaseActive]

@[simp] theorem State.releaseQueued_ticks (s : State) (z : Fin 8) (t : Half) : (s.releaseQueued z t).ticks = s.ticks := by
  simp [State.releaseQueued]
@[simp] theorem State.releaseQueued_assertedReset (s : State) (z : Fin 8) (t : Half) : (s.releaseQueued z t).assertedReset = s.assertedReset := by
  simp [State.releaseQueued]
@[simp] theorem State.releaseQueued_supply (s : State) (z : Fin 8) (t : Half) : (s.releaseQueued z t).supply = s.supply := by
  simp [State.releaseQueued]
@[simp] theorem State.releaseQueued_pins (s : State) (z : Fin 8) (t : Half) : (s.releaseQueued z t).pins = s.pins := by
  simp [State.releaseQueued]
@[simp] theorem State.releaseQueued_port (s : State) (z : Fin 8) (t : Half) : (s.releaseQueued z t).port = s.port := by
  simp [State.releaseQueued]
@[simp] theorem State.releaseQueued_library (s : State) (z : Fin 8) (t : Half) : (s.releaseQueued z t).library = s.library := by
  simp [State.releaseQueued]
@[simp] theorem State.releaseQueued_arbiter (s : State) (z : Fin 8) (t : Half) : (s.releaseQueued z t).arbiter = s.arbiter := by
  simp [State.releaseQueued]
@[simp] theorem State.releaseQueued_generators (s : State) (z : Fin 8) (t : Half) : (s.releaseQueued z t).generators = s.generators := by
  simp [State.releaseQueued]
@[simp] theorem State.releaseQueued_lines (s : State) (z : Fin 8) (t : Half) : (s.releaseQueued z t).lines = s.lines := by
  simp [State.releaseQueued]
@[simp] theorem State.releaseQueued_capture (s : State) (z : Fin 8) (t : Half) : (s.releaseQueued z t).capture = s.capture := by
  simp [State.releaseQueued]
@[simp] theorem State.releaseQueued_notices (s : State) (z : Fin 8) (t : Half) : (s.releaseQueued z t).notices = s.notices := by
  simp [State.releaseQueued]
@[simp] theorem State.releaseQueued_freeCount (s : State) (z : Fin 8) (t : Half) : (s.releaseQueued z t).freeCount = s.freeCount := by
  simp [State.releaseQueued]
@[simp] theorem State.releaseQueued_pending (s : State) (z : Fin 8) (t : Half) : (s.releaseQueued z t).pending = s.pending := by
  simp [State.releaseQueued]
@[simp] theorem State.template_releaseQueued (s : State) (z : Fin 8) (t : Half) (i : Fin 64) : (s.releaseQueued z t).template i = s.template i := by
  simp [State.template, State.slot]

@[simp] theorem State.cancelNow_ticks (s : State) (z : Fin 8) : (s.cancelNow z).ticks = s.ticks := by
  simp [State.cancelNow]
@[simp] theorem State.cancelNow_assertedReset (s : State) (z : Fin 8) : (s.cancelNow z).assertedReset = s.assertedReset := by
  simp [State.cancelNow]
@[simp] theorem State.cancelNow_supply (s : State) (z : Fin 8) : (s.cancelNow z).supply = s.supply := by
  simp [State.cancelNow]
@[simp] theorem State.cancelNow_pins (s : State) (z : Fin 8) : (s.cancelNow z).pins = s.pins := by
  simp [State.cancelNow]
@[simp] theorem State.cancelNow_port (s : State) (z : Fin 8) : (s.cancelNow z).port = s.port := by
  simp [State.cancelNow]
@[simp] theorem State.cancelNow_lines (s : State) (z : Fin 8) : (s.cancelNow z).lines = s.lines := by
  simp [State.cancelNow]
@[simp] theorem State.cancelNow_capture (s : State) (z : Fin 8) : (s.cancelNow z).capture = s.capture := by
  simp [State.cancelNow]
@[simp] theorem State.cancelNow_notices (s : State) (z : Fin 8) : (s.cancelNow z).notices = s.notices := by
  simp [State.cancelNow]
@[simp] theorem State.cancelNow_freeCount (s : State) (z : Fin 8) : (s.cancelNow z).freeCount = s.freeCount := by
  simp [State.cancelNow]
@[simp] theorem State.cancelNow_pending (s : State) (z : Fin 8) : (s.cancelNow z).pending = s.pending := by
  simp [State.cancelNow]
@[simp] theorem State.template_cancelNow (s : State) (z : Fin 8) (i : Fin 64) : (s.cancelNow z).template i = s.template i := by
  simp [State.cancelNow]

@[simp] theorem State.cancelLater_ticks (s : State) (z : Fin 8) : (s.cancelLater z).ticks = s.ticks := by
  simp [State.cancelLater]
@[simp] theorem State.cancelLater_assertedReset (s : State) (z : Fin 8) : (s.cancelLater z).assertedReset = s.assertedReset := by
  simp [State.cancelLater]
@[simp] theorem State.cancelLater_supply (s : State) (z : Fin 8) : (s.cancelLater z).supply = s.supply := by
  simp [State.cancelLater]
@[simp] theorem State.cancelLater_pins (s : State) (z : Fin 8) : (s.cancelLater z).pins = s.pins := by
  simp [State.cancelLater]
@[simp] theorem State.cancelLater_port (s : State) (z : Fin 8) : (s.cancelLater z).port = s.port := by
  simp [State.cancelLater]
@[simp] theorem State.cancelLater_library (s : State) (z : Fin 8) : (s.cancelLater z).library = s.library := by
  simp [State.cancelLater]
@[simp] theorem State.cancelLater_arbiter (s : State) (z : Fin 8) : (s.cancelLater z).arbiter = s.arbiter := by
  simp [State.cancelLater]
@[simp] theorem State.cancelLater_generators (s : State) (z : Fin 8) : (s.cancelLater z).generators = s.generators := by
  simp [State.cancelLater]
@[simp] theorem State.cancelLater_lines (s : State) (z : Fin 8) : (s.cancelLater z).lines = s.lines := by
  simp [State.cancelLater]
@[simp] theorem State.cancelLater_capture (s : State) (z : Fin 8) : (s.cancelLater z).capture = s.capture := by
  simp [State.cancelLater]
@[simp] theorem State.cancelLater_notices (s : State) (z : Fin 8) : (s.cancelLater z).notices = s.notices := by
  simp [State.cancelLater]
@[simp] theorem State.cancelLater_freeCount (s : State) (z : Fin 8) : (s.cancelLater z).freeCount = s.freeCount := by
  simp [State.cancelLater]
@[simp] theorem State.cancelLater_pending (s : State) (z : Fin 8) : (s.cancelLater z).pending = s.pending := by
  simp [State.cancelLater]
@[simp] theorem State.template_cancelLater (s : State) (z : Fin 8) (i : Fin 64) : (s.cancelLater z).template i = s.template i := by
  simp [State.template, State.slot]

@[simp] theorem State.dropQueued_ticks (s : State) (z : Fin 8) (j : Job) : (s.dropQueued z j).ticks = s.ticks := by
  simp [State.dropQueued]
@[simp] theorem State.dropQueued_assertedReset (s : State) (z : Fin 8) (j : Job) : (s.dropQueued z j).assertedReset = s.assertedReset := by
  simp [State.dropQueued]
@[simp] theorem State.dropQueued_supply (s : State) (z : Fin 8) (j : Job) : (s.dropQueued z j).supply = s.supply := by
  simp [State.dropQueued]
@[simp] theorem State.dropQueued_pins (s : State) (z : Fin 8) (j : Job) : (s.dropQueued z j).pins = s.pins := by
  simp [State.dropQueued]
@[simp] theorem State.dropQueued_port (s : State) (z : Fin 8) (j : Job) : (s.dropQueued z j).port = s.port := by
  simp [State.dropQueued]
@[simp] theorem State.dropQueued_arbiter (s : State) (z : Fin 8) (j : Job) : (s.dropQueued z j).arbiter = s.arbiter := by
  simp [State.dropQueued]
@[simp] theorem State.dropQueued_generators (s : State) (z : Fin 8) (j : Job) : (s.dropQueued z j).generators = s.generators := by
  simp [State.dropQueued]
@[simp] theorem State.dropQueued_lines (s : State) (z : Fin 8) (j : Job) : (s.dropQueued z j).lines = s.lines := by
  simp [State.dropQueued]
@[simp] theorem State.dropQueued_capture (s : State) (z : Fin 8) (j : Job) : (s.dropQueued z j).capture = s.capture := by
  simp [State.dropQueued]
@[simp] theorem State.dropQueued_notices (s : State) (z : Fin 8) (j : Job) : (s.dropQueued z j).notices = s.notices := by
  simp [State.dropQueued]
@[simp] theorem State.dropQueued_freeCount (s : State) (z : Fin 8) (j : Job) : (s.dropQueued z j).freeCount = s.freeCount := by
  simp [State.dropQueued]
@[simp] theorem State.dropQueued_pending (s : State) (z : Fin 8) (j : Job) : (s.dropQueued z j).pending = s.pending := by
  simp [State.dropQueued]
@[simp] theorem State.template_dropQueued (s : State) (z : Fin 8) (j : Job) (i : Fin 64) : (s.dropQueued z j).template i = s.template i := by
  simp [State.dropQueued]

@[simp] theorem State.dropQueue_ticks (s : State) (z : Fin 8) : (s.dropQueue z).ticks = s.ticks := by
  simp [State.dropQueue]
@[simp] theorem State.dropQueue_assertedReset (s : State) (z : Fin 8) : (s.dropQueue z).assertedReset = s.assertedReset := by
  simp [State.dropQueue]
@[simp] theorem State.dropQueue_supply (s : State) (z : Fin 8) : (s.dropQueue z).supply = s.supply := by
  simp [State.dropQueue]
@[simp] theorem State.dropQueue_pins (s : State) (z : Fin 8) : (s.dropQueue z).pins = s.pins := by
  simp [State.dropQueue]
@[simp] theorem State.dropQueue_port (s : State) (z : Fin 8) : (s.dropQueue z).port = s.port := by
  simp [State.dropQueue]
@[simp] theorem State.dropQueue_arbiter (s : State) (z : Fin 8) : (s.dropQueue z).arbiter = s.arbiter := by
  simp [State.dropQueue]
@[simp] theorem State.dropQueue_generators (s : State) (z : Fin 8) : (s.dropQueue z).generators = s.generators := by
  simp [State.dropQueue]
@[simp] theorem State.dropQueue_lines (s : State) (z : Fin 8) : (s.dropQueue z).lines = s.lines := by
  simp [State.dropQueue]
@[simp] theorem State.dropQueue_capture (s : State) (z : Fin 8) : (s.dropQueue z).capture = s.capture := by
  simp [State.dropQueue]
@[simp] theorem State.dropQueue_notices (s : State) (z : Fin 8) : (s.dropQueue z).notices = s.notices := by
  simp [State.dropQueue]
@[simp] theorem State.dropQueue_freeCount (s : State) (z : Fin 8) : (s.dropQueue z).freeCount = s.freeCount := by
  simp [State.dropQueue]
@[simp] theorem State.dropQueue_pending (s : State) (z : Fin 8) : (s.dropQueue z).pending = s.pending := by
  simp [State.dropQueue]
@[simp] theorem State.template_dropQueue (s : State) (z : Fin 8) (i : Fin 64) : (s.dropQueue z).template i = s.template i := by
  simp [State.dropQueue]

@[simp] theorem State.discardActive_ticks (s : State) (z : Fin 8) : (s.discardActive z).ticks = s.ticks := by
  unfold State.discardActive; split <;> simp
@[simp] theorem State.discardActive_assertedReset (s : State) (z : Fin 8) : (s.discardActive z).assertedReset = s.assertedReset := by
  unfold State.discardActive; split <;> simp
@[simp] theorem State.discardActive_supply (s : State) (z : Fin 8) : (s.discardActive z).supply = s.supply := by
  unfold State.discardActive; split <;> simp
@[simp] theorem State.discardActive_pins (s : State) (z : Fin 8) : (s.discardActive z).pins = s.pins := by
  unfold State.discardActive; split <;> simp
@[simp] theorem State.discardActive_port (s : State) (z : Fin 8) : (s.discardActive z).port = s.port := by
  unfold State.discardActive; split <;> simp
@[simp] theorem State.discardActive_zones (s : State) (z : Fin 8) : (s.discardActive z).zones = s.zones := by
  unfold State.discardActive; split <;> simp
@[simp] theorem State.discardActive_lines (s : State) (z : Fin 8) : (s.discardActive z).lines = s.lines := by
  unfold State.discardActive; split <;> simp
@[simp] theorem State.discardActive_capture (s : State) (z : Fin 8) : (s.discardActive z).capture = s.capture := by
  unfold State.discardActive; split <;> simp
@[simp] theorem State.discardActive_notices (s : State) (z : Fin 8) : (s.discardActive z).notices = s.notices := by
  unfold State.discardActive; split <;> simp
@[simp] theorem State.discardActive_freeCount (s : State) (z : Fin 8) : (s.discardActive z).freeCount = s.freeCount := by
  unfold State.discardActive; split <;> simp
@[simp] theorem State.discardActive_pending (s : State) (z : Fin 8) : (s.discardActive z).pending = s.pending := by
  unfold State.discardActive; split <;> simp
@[simp] theorem State.template_discardActive (s : State) (z : Fin 8) (i : Fin 64) : (s.discardActive z).template i = s.template i := by
  unfold State.discardActive; split <;> simp

@[simp] theorem State.resetZone_ticks (s : State) (z : Fin 8) : (s.resetZone z).ticks = s.ticks := by
  simp [State.resetZone]
@[simp] theorem State.resetZone_assertedReset (s : State) (z : Fin 8) : (s.resetZone z).assertedReset = s.assertedReset := by
  simp [State.resetZone]
@[simp] theorem State.resetZone_supply (s : State) (z : Fin 8) : (s.resetZone z).supply = s.supply := by
  simp [State.resetZone]
@[simp] theorem State.resetZone_pins (s : State) (z : Fin 8) : (s.resetZone z).pins = s.pins := by
  simp [State.resetZone]
@[simp] theorem State.resetZone_port (s : State) (z : Fin 8) : (s.resetZone z).port = s.port := by
  simp [State.resetZone]
@[simp] theorem State.resetZone_lines (s : State) (z : Fin 8) : (s.resetZone z).lines = s.lines := by
  simp [State.resetZone]
@[simp] theorem State.resetZone_capture (s : State) (z : Fin 8) : (s.resetZone z).capture = s.capture := by
  simp [State.resetZone]
@[simp] theorem State.resetZone_notices (s : State) (z : Fin 8) : (s.resetZone z).notices = s.notices := by
  simp [State.resetZone]
@[simp] theorem State.resetZone_freeCount (s : State) (z : Fin 8) : (s.resetZone z).freeCount = s.freeCount := by
  simp [State.resetZone]
@[simp] theorem State.resetZone_pending (s : State) (z : Fin 8) : (s.resetZone z).pending = s.pending := by
  simp [State.resetZone]
@[simp] theorem State.template_resetZone (s : State) (z : Fin 8) (i : Fin 64) : (s.resetZone z).template i = s.template i := by
  simp [State.resetZone]

@[simp] theorem State.lineSubmit_ticks (s : State) (b : Binding) (n : Fin 4) (m : JobMode) : (s.lineSubmit b n m).ticks = s.ticks := by
  unfold State.lineSubmit; split <;> simp
@[simp] theorem State.lineSubmit_assertedReset (s : State) (b : Binding) (n : Fin 4) (m : JobMode) : (s.lineSubmit b n m).assertedReset = s.assertedReset := by
  unfold State.lineSubmit; split <;> simp
@[simp] theorem State.lineSubmit_supply (s : State) (b : Binding) (n : Fin 4) (m : JobMode) : (s.lineSubmit b n m).supply = s.supply := by
  unfold State.lineSubmit; split <;> simp
@[simp] theorem State.lineSubmit_pins (s : State) (b : Binding) (n : Fin 4) (m : JobMode) : (s.lineSubmit b n m).pins = s.pins := by
  unfold State.lineSubmit; split <;> simp
@[simp] theorem State.lineSubmit_port (s : State) (b : Binding) (n : Fin 4) (m : JobMode) : (s.lineSubmit b n m).port = s.port := by
  unfold State.lineSubmit; split <;> simp
@[simp] theorem State.lineSubmit_generators (s : State) (b : Binding) (n : Fin 4) (m : JobMode) : (s.lineSubmit b n m).generators = s.generators := by
  unfold State.lineSubmit; split <;> simp
@[simp] theorem State.lineSubmit_lines (s : State) (b : Binding) (n : Fin 4) (m : JobMode) : (s.lineSubmit b n m).lines = s.lines := by
  unfold State.lineSubmit; split <;> simp
@[simp] theorem State.lineSubmit_capture (s : State) (b : Binding) (n : Fin 4) (m : JobMode) : (s.lineSubmit b n m).capture = s.capture := by
  unfold State.lineSubmit; split <;> simp
@[simp] theorem State.lineSubmit_freeCount (s : State) (b : Binding) (n : Fin 4) (m : JobMode) : (s.lineSubmit b n m).freeCount = s.freeCount := by
  unfold State.lineSubmit; split <;> simp
@[simp] theorem State.lineSubmit_pending (s : State) (b : Binding) (n : Fin 4) (m : JobMode) : (s.lineSubmit b n m).pending = s.pending := by
  unfold State.lineSubmit; split <;> simp
@[simp] theorem State.template_lineSubmit (s : State) (b : Binding) (n : Fin 4) (m : JobMode) (i : Fin 64) : (s.lineSubmit b n m).template i = s.template i := by
  unfold State.lineSubmit; split <;> simp

@[simp] theorem State.retrigger_ticks (s : State) (b : Binding) (n : Fin 4) (r : Nat) : (s.retrigger b n r).ticks = s.ticks := by
  unfold State.retrigger; split <;> (try split) <;> simp
@[simp] theorem State.retrigger_assertedReset (s : State) (b : Binding) (n : Fin 4) (r : Nat) : (s.retrigger b n r).assertedReset = s.assertedReset := by
  unfold State.retrigger; split <;> (try split) <;> simp
@[simp] theorem State.retrigger_supply (s : State) (b : Binding) (n : Fin 4) (r : Nat) : (s.retrigger b n r).supply = s.supply := by
  unfold State.retrigger; split <;> (try split) <;> simp
@[simp] theorem State.retrigger_pins (s : State) (b : Binding) (n : Fin 4) (r : Nat) : (s.retrigger b n r).pins = s.pins := by
  unfold State.retrigger; split <;> (try split) <;> simp
@[simp] theorem State.retrigger_port (s : State) (b : Binding) (n : Fin 4) (r : Nat) : (s.retrigger b n r).port = s.port := by
  unfold State.retrigger; split <;> (try split) <;> simp
@[simp] theorem State.retrigger_lines (s : State) (b : Binding) (n : Fin 4) (r : Nat) : (s.retrigger b n r).lines = s.lines := by
  unfold State.retrigger; split <;> (try split) <;> simp
@[simp] theorem State.retrigger_capture (s : State) (b : Binding) (n : Fin 4) (r : Nat) : (s.retrigger b n r).capture = s.capture := by
  unfold State.retrigger; split <;> (try split) <;> simp
@[simp] theorem State.retrigger_freeCount (s : State) (b : Binding) (n : Fin 4) (r : Nat) : (s.retrigger b n r).freeCount = s.freeCount := by
  unfold State.retrigger; split <;> (try split) <;> simp
@[simp] theorem State.retrigger_pending (s : State) (b : Binding) (n : Fin 4) (r : Nat) : (s.retrigger b n r).pending = s.pending := by
  unfold State.retrigger; split <;> (try split) <;> simp
@[simp] theorem State.template_retrigger (s : State) (b : Binding) (n : Fin 4) (r : Nat) (i : Fin 64) : (s.retrigger b n r).template i = s.template i := by
  unfold State.retrigger; split <;> (try split) <;> simp

@[simp] theorem State.rising_ticks (s : State) (b : Binding) (n : Fin 4) : (s.rising b n).ticks = s.ticks := by
  unfold State.rising; split <;> simp
@[simp] theorem State.rising_assertedReset (s : State) (b : Binding) (n : Fin 4) : (s.rising b n).assertedReset = s.assertedReset := by
  unfold State.rising; split <;> simp
@[simp] theorem State.rising_supply (s : State) (b : Binding) (n : Fin 4) : (s.rising b n).supply = s.supply := by
  unfold State.rising; split <;> simp
@[simp] theorem State.rising_pins (s : State) (b : Binding) (n : Fin 4) : (s.rising b n).pins = s.pins := by
  unfold State.rising; split <;> simp
@[simp] theorem State.rising_port (s : State) (b : Binding) (n : Fin 4) : (s.rising b n).port = s.port := by
  unfold State.rising; split <;> simp
@[simp] theorem State.rising_capture (s : State) (b : Binding) (n : Fin 4) : (s.rising b n).capture = s.capture := by
  unfold State.rising; split <;> simp
@[simp] theorem State.rising_freeCount (s : State) (b : Binding) (n : Fin 4) : (s.rising b n).freeCount = s.freeCount := by
  unfold State.rising; split <;> simp
@[simp] theorem State.rising_pending (s : State) (b : Binding) (n : Fin 4) : (s.rising b n).pending = s.pending := by
  unfold State.rising; split <;> simp
@[simp] theorem State.template_rising (s : State) (b : Binding) (n : Fin 4) (i : Fin 64) : (s.rising b n).template i = s.template i := by
  unfold State.rising; split <;> simp

@[simp] theorem State.zone_giveBack (s : State) (z y : Fin 8) (b : Option (Fin 4)) : (s.giveBack z b).zone y = s.zone y := by
  simp [State.zone]

/-! ### The zones other than the one an operation names -/

@[simp] theorem State.zone_endJob_ne (s : State) {z y : Fin 8} (o : JobOutcome) (t : Word) (h : y ≠ z) :
    (s.endJob z o t).zone y = s.zone y := by
  unfold State.endJob; split
  · rfl
  · simp [h]
@[simp] theorem State.zone_beginWaiting_ne (s : State) {z y : Fin 8} (j : Job) (rest : List Job) (h : y ≠ z) :
    (s.beginWaiting z j rest).zone y = s.zone y := by
  simp [State.beginWaiting, State.zone, State.updZone, State.setZone, Fin.val_ne_of_ne (Ne.symm h)]
@[simp] theorem State.zone_endIncompatible_ne (s : State) {z y : Fin 8} (j : Job) (rest : List Job) (h : y ≠ z) :
    (s.endIncompatible z j rest).zone y = s.zone y := by
  simp [State.endIncompatible, h]
@[simp] theorem State.zone_activateHead_ne (s : State) {z y : Fin 8}  (h : y ≠ z) :
    (s.activateHead z).zone y = s.zone y := by
  unfold State.activateHead; split <;> (try split) <;> simp [h]
@[simp] theorem State.zone_activations_ne (n : Nat) {z y : Fin 8} (s : State) (h : y ≠ z) :
    (State.activations n z s).zone y = s.zone y := by
  induction n generalizing s with
  | zero => rfl
  | succ n ih => unfold State.activations; split <;> simp [ih, h]
@[simp] theorem State.zone_considerActivation_ne (s : State) {z y : Fin 8}  (h : y ≠ z) :
    (s.considerActivation z).zone y = s.zone y := by
  simp [State.considerActivation, h]
@[simp] theorem State.zone_enqueue_ne (s : State) {z y : Fin 8} (j : Job) (h : y ≠ z) :
    (s.enqueue z j).zone y = s.zone y := by
  simp [State.enqueue, h]
@[simp] theorem State.zone_startFrame_ne (s : State) {z y : Fin 8}  (h : y ≠ z) :
    (s.startFrame z).zone y = s.zone y := by
  unfold State.startFrame; split <;> simp [h]
@[simp] theorem State.zone_gateMoved_ne (s : State) {z y : Fin 8} (w : Bool) (h : y ≠ z) :
    (s.gateMoved z w).zone y = s.zone y := by
  simp only [State.gateMoved, State.closeGate, State.openGate]; split <;> (try split) <;> (try split) <;> (try split) <;> (try split) <;> simp [h]
@[simp] theorem State.zone_decideAgain_ne (s : State) {z y : Fin 8}  (h : y ≠ z) :
    (s.decideAgain z).zone y = s.zone y := by
  unfold State.decideAgain; split <;> (try split) <;> (try split) <;> (try split) <;> simp [h]
@[simp] theorem State.zone_driverFault_ne (s : State) {z y : Fin 8} (k : FaultKind) (h : y ≠ z) :
    (s.driverFault z k).zone y = s.zone y := by
  simp [State.driverFault, State.cutOutput, h]
@[simp] theorem State.zone_sense_ne (s : State) {z y : Fin 8}  (h : y ≠ z) :
    (s.sense z).zone y = s.zone y := by
  unfold State.sense; split <;> (try split) <;> simp [h]

end Sys2Proof.Machine
end

