-- ==== Sys2Proof/Laws/Port.lean ====
section
/-!
SUPPORT. What a request command does, once for all of them: on a free port the owning block's answer is sent; on a busy
one the frame is kept; in reset nothing happens. What the port reads from a request body.
-/
namespace Sys2Proof.Machine

/-- Every request command goes through the port. -/
theorem exec_request {c : Instr} {q : Byte} {r : Request} (h : requestOf c = some (q, r)) (s : State) :
    exec c s = .next (s.request q r) := by
  cases c <;> simp [requestOf] at h <;> (obtain ⟨h1, h2⟩ := h; subst h1; subst h2; rfl)

theorem replyCode_requestCode (r : Request) : replyCode (requestCode r) = requestCode r + 0x80#8 := by
  cases r <;> rfl

/-- A request whose lengths are right, on a free port: its answer, and the reply begins. -/
theorem State.request_ready {s : State} (hs : s.ready) {r : Request} (hl : r.lengthOk = true) (q : Byte) :
    s.request q r = (answer r s).state.replying (requestCode r) q (answer r s).status (answer r s).fields := by
  obtain ⟨h1, h2, h3⟩ := hs
  simp [State.request, h1, h2, h3, State.handle, hl, State.replying, replyCode_requestCode]

/-- A request command on a free port. -/
theorem exec_ready {c : Instr} {q : Byte} {r : Request} (h : requestOf c = some (q, r)) (hl : r.lengthOk = true)
    {s : State} (hs : s.ready) :
    exec c s = .next ((answer r s).state.replying (requestCode r) q (answer r s).status (answer r s).fields) := by
  rw [exec_request h, State.request_ready hs hl]

/-- A request command while another is in handling. -/
theorem exec_busy {c : Instr} {q : Byte} {r : Request} (h : requestOf c = some (q, r)) {s : State}
    (h1 : s.assertedReset = none) (h2 : s.port.handling.isSome) : exec c s = .next (s.offer (requestBody q r)) := by
  obtain ⟨x, hx⟩ := Option.isSome_iff_exists.mp h2
  rw [exec_request h]; simp [State.request, h1, hx]

/-- A request command while reset is asserted. -/
theorem exec_inReset {c : Instr} {q : Byte} {r : Request} (h : requestOf c = some (q, r)) {s : State}
    (h1 : s.assertedReset.isSome) : exec c s = .next s := by
  rw [exec_request h]; simp [State.request, h1]

/-! ### Reading a body: what is read is what was written -/

theorem extract_low {n m : Nat} (high : BitVec m) (low : BitVec n) : (high ++ low).extractLsb' 0 n = low := by
  apply BitVec.eq_of_getLsbD_eq; intro i hi; simp [BitVec.getLsbD_append, hi]

theorem extract_high {n m : Nat} (high : BitVec m) (low : BitVec n) : (high ++ low).extractLsb' n m = high := by
  apply BitVec.eq_of_getLsbD_eq; intro i hi; simp [BitVec.getLsbD_append, hi]

/-- Two bytes read as a field are the field's bytes. -/
theorem halfBytes_halfOf (low high : Byte) : halfBytes (halfOf low high) = [low, high] := by
  rw [halfBytes, lowByte, highByte, halfOf, extract_low, extract_high]

theorem wordBytes_wordOf (b0 b1 b2 b3 : Byte) : wordBytes (wordOf b0 b1 b2 b3) = [b0, b1, b2, b3] := by
  rw [wordBytes, wordOf, extract_low, extract_high, halfBytes_halfOf, halfBytes_halfOf]; rfl

theorem elementBytes_read {f : List Byte} {es : List ElementRecord} (h : readElements f = some es) :
    es.flatMap elementBytes = f := by
  induction f using readElements.induct generalizing es with
  | case1 => cases h; rfl
  | case2 k c d0 d1 rest ih =>
    simp only [readElements, Option.map_eq_some_iff] at h
    obtain ⟨xs, h1, rfl⟩ := h
    simp [elementBytes, halfBytes_halfOf, ih h1]
  | case3 => simp [readElements] at h

theorem entryBytes_read {f : List Byte} {es : List SourceEntry} (h : readEntries f = some es) :
    (es.flatMap fun e => [e.source, e.priority, e.mask]) = f := by
  induction f using readEntries.induct generalizing es with
  | case1 => cases h; rfl
  | case2 n p m rest ih =>
    simp only [readEntries, Option.map_eq_some_iff] at h
    obtain ⟨xs, h1, rfl⟩ := h
    simp [ih h1]
  | case3 => simp [readEntries] at h

theorem headerBytes_read {f : List Byte} {h : TemplateHeader} (hf : readHeader f = some h) : headerBytes h = f := by
  unfold readHeader at hf
  split at hf
  · cases hf; simp [headerBytes, halfBytes_halfOf, wordBytes_wordOf]
  · cases hf

theorem jobBytes_read {f : List Byte} {r : JobSubmitRecord} (h : readJob f = some r) : jobBytes r = f := by
  unfold readJob at h
  split at h
  · cases h; simp [jobBytes, halfBytes_halfOf]
  · cases h

theorem bindingBytes_read {f : List Byte} {r : BindingRecord} (h : readBinding f = some r) : bindingBytes r = f := by
  unfold readBinding at h
  split at h
  · cases h; simp [bindingBytes, halfBytes_halfOf]
  · cases h

theorem planBytes_read {f : List Byte} {r : Request} (h : readPlan f = some r) : requestCode r = 0x30#8 ∧ requestFields r = f := by
  unfold readPlan at h
  split at h
  · cases h; exact ⟨rfl, by simp [requestFields, halfBytes_halfOf]⟩
  · cases h

theorem parsedOf_request {o : Option Request} {r : Request} (h : parsedOf o = .request r) : o = some r ∧ r.lengthOk = true := by
  unfold parsedOf at h
  split at h
  · cases h
  · split at h
    · cases h; exact ⟨rfl, ‹_›⟩
    · cases h

/-- What `parseFields` reads is a request of that code, of lengths that R178 accepts, with those field bytes. -/
theorem parseFields_request {code : Byte} {f : List Byte} {r : Request} (h : parseFields code f = .request r) :
    requestCode r = code ∧ r.lengthOk = true ∧ requestFields r = f := by
  unfold parseFields at h
  split at h
  all_goals first
    | cases h
    | (obtain ⟨h1, h2⟩ := parsedOf_request h
       refine (fun (k : requestCode r = _ ∧ requestFields r = f) => ⟨k.1, h2, k.2⟩) ?_
       clear h h2
       first
         | exact planBytes_read h1
         | (try simp only [readNone, readOne, readTwo, readOptional] at h1
            try split at h1
            all_goals first
              | (cases h1; exact ⟨rfl, by simp [requestFields, halfBytes_halfOf]⟩)
              | (simp only [Option.map_eq_some_iff] at h1
                 obtain ⟨x, h3, rfl⟩ := h1
                 first
                   | exact ⟨rfl, jobBytes_read h3⟩
                   | exact ⟨rfl, by rw [requestFields, headerBytes_read h3]⟩
                   | exact ⟨rfl, by rw [requestFields, elementBytes_read h3]⟩
                   | exact ⟨rfl, by rw [requestFields, entryBytes_read h3]⟩
                   | exact ⟨rfl, by rw [requestFields, bindingBytes_read h3]⟩)
              | cases h1))

theorem parsedOf_ne_unknown (o : Option Request) : parsedOf o ≠ .unknown := by
  unfold parsedOf; split
  · simp
  · split <;> simp

/-- A body is unknown exactly when no request has its code (R178). -/
theorem parseFields_unknown (code : Byte) (f : List Byte) :
    parseFields code f = .unknown ↔ ∀ r, requestCode r ≠ code := by
  constructor
  · rintro h r rfl
    cases r <;> exact parsedOf_ne_unknown _ h
  · intro h
    have k : ∀ (r : Request) (p : Parsed), requestCode r = code → p = .unknown := fun r _ e => absurd e (h r)
    unfold parseFields
    split
    all_goals first
      | rfl
      | exact k .identify _ rfl
      | exact k .engineReset _ rfl
      | exact k (.templateBegin 0 ⟨0, 0, 0, 0, 0, 0, 0, 0, 0, 0⟩) _ rfl
      | exact k (.templateAppend 0 []) _ rfl
      | exact k .templateCommit _ rfl
      | exact k .templateAbandon _ rfl
      | exact k (.templateDelete 0) _ rfl
      | exact k (.templateQuery 0 0) _ rfl
      | exact k .libraryQuery _ rfl
      | exact k (.zoneSetup 0 0 0 0 0) _ rfl
      | exact k (.zoneQuery 0) _ rfl
      | exact k (.zoneReset 0) _ rfl
      | exact k (.faultClear 0) _ rfl
      | exact k (.jobSubmit ⟨0, 0, 0, 0, 0, 0, 0, []⟩) _ rfl
      | exact k (.jobRelease 0 0) _ rfl
      | exact k (.jobCancel 0 0 0) _ rfl
      | exact k (.zoneFlush 0 0) _ rfl
      | exact k (.completionTake 0) _ rfl
      | exact k (.slotPlan 0 (Vector.replicate 8 0)) _ rfl
      | exact k (.slotQuery 0) _ rfl
      | exact k .carrierQuery _ rfl
      | exact k .timeQuery _ rfl
      | exact k (.triggerBind 0 none) _ rfl
      | exact k (.triggerQuery 0) _ rfl
      | exact k (.captureArm 0 0 0 0 0) _ rfl
      | exact k .captureStop _ rfl
      | exact k .captureQuery _ rfl
      | exact k (.captureRead 0 0) _ rfl
      | exact k (.noticeFetch none) _ rfl
      | exact k .noticePeek _ rfl
      | exact k (.noticeAck none) _ rfl
      | exact k (.noticeSetup 0 []) _ rfl

/-- What the port reads from a body that it refuses. -/
theorem parseFields_unread {code : Byte} {f : List Byte} {status : Status} (h : UnreadBody code f status) :
    (status = .unknown ∧ parseFields code f = .unknown) ∨ (status = .badLength ∧ parseFields code f = .badLength) := by
  rcases h with ⟨h1, h2⟩ | ⟨h1, ⟨x, h2⟩, h3⟩
  · exact .inl ⟨h1, (parseFields_unknown _ _).mpr h2⟩
  · refine .inr ⟨h1, ?_⟩
    cases h : parseFields code f with
    | unknown => exact absurd h2 ((parseFields_unknown _ _).mp h x)
    | badLength => rfl
    | request r =>
      obtain ⟨h4, h5, h6⟩ := parseFields_request h
      exact absurd h6 (h3 r h4 h5)

end Sys2Proof.Machine
end

