-- ==== Sys2Proof/Laws/Answer.lean ====
section
/-!
SUPPORT. What no request changes, whatever its owner makes of it: the instant, the reset, the pins, the port, the queue.
And that the bytes every answer states fit its frame.
-/
namespace Sys2Proof.Machine

/-- What no answer of an owning block changes: the instant, the reset, the pins, the port and the queue. -/
structure Outside (t s : State) : Prop where
  ticks : t.ticks = s.ticks
  assertedReset : t.assertedReset = s.assertedReset
  supply : t.supply = s.supply
  pins : t.pins = s.pins
  port : t.port = s.port
  freeCount : t.freeCount = s.freeCount
  pending : t.pending = s.pending

theorem Outside.refl (s : State) : Outside s s := ⟨rfl, rfl, rfl, rfl, rfl, rfl, rfl⟩

theorem outside_release (s : State) (z : Fin 8) (tag : Half) : Outside (s.release z tag).state s := by
  unfold State.release State.releaseAgain State.releaseLate
  repeat' split
  all_goals first
    | exact Outside.refl s
    | (constructor <;> simp [accept])

theorem Outside.trans {a b c : State} (h : Outside a b) (k : Outside b c) : Outside a c :=
  ⟨h.1.trans k.1, h.2.trans k.2, h.3.trans k.3, h.4.trans k.4, h.5.trans k.5, h.6.trans k.6, h.7.trans k.7⟩

theorem outside_unhold (s : State) (n : Fin 4) : Outside (s.unhold n) s := by
  unfold State.unhold State.lineRelease; split
  · split
    · exact outside_release ..
    · exact Outside.refl s
  · exact Outside.refl s

theorem outside_bind (s : State) (n : Fin 4) (new : Option Binding) : Outside (s.bind n new) s := by
  unfold State.bind; split <;> split <;> constructor <;> rfl

theorem outside_rebind (s : State) (n : Fin 4) (new : Option Binding) : Outside (s.rebind n new).state s :=
  (outside_bind ..).trans (outside_unhold ..)

theorem outside_fetch (s : State) (n : Source) (claimed : Bool) : Outside (s.fetch n claimed).state s := by
  unfold State.fetch; split
  · exact Outside.refl s
  · cases n <;> constructor <;> simp [accept, State.deliver]

/-- An answer of an owning block leaves the instant, the reset, the pins, the port and the queue as they were. -/
theorem outside_answer (r : Request) (s : State) : Outside (answer r s).state s := by
  cases r <;> simp only [answer]
  case templateBegin => unfold templateBegin; split <;> (try split) <;> constructor <;> rfl
  case templateAppend => unfold templateAppend; split <;> (try split) <;> (try split) <;> constructor <;> rfl
  case templateCommit => unfold templateCommit; split <;> (try split) <;> (try split) <;> (try split) <;> constructor <;> rfl
  case templateAbandon => unfold templateAbandon; split <;> constructor <;> rfl
  case templateDelete => unfold templateDelete; split <;> (try split) <;> (try split) <;> constructor <;> rfl
  case templateQuery => unfold templateQuery; split <;> (try split) <;> (try split) <;> constructor <;> rfl
  case libraryQuery => exact Outside.refl s
  case zoneSetup => unfold zoneSetup; split <;> (try dsimp only) <;> (try split) <;> constructor <;> rfl
  case zoneQuery => unfold zoneQuery; split <;> constructor <;> rfl
  case zoneReset => unfold zoneReset; split <;> (try split) <;> constructor <;> simp [accept, refuse]
  case faultClear => unfold faultClear; split <;> (try split) <;> (try split) <;> constructor <;> simp [accept, refuse]
  case jobSubmit => unfold jobSubmit; split <;> (try split) <;> (try split) <;> constructor <;> simp [accept, refuse]
  case jobRelease => unfold jobRelease; split; exact Outside.refl s; exact outside_release ..
  case jobCancel => unfold jobCancel State.cancelActive; split <;> (try split) <;> (try split) <;> (try split) <;> (try split) <;> constructor <;> simp [accept, refuse, refuseWith]
  case zoneFlush => unfold zoneFlush State.flushActive; split <;> (try split) <;> (try split) <;> (try split) <;> (try split) <;> constructor <;> simp [accept, refuse]
  case completionTake => unfold completionTake; split <;> (try split) <;> constructor <;> simp [accept, refuse]
  case slotPlan => unfold slotPlan; split <;> constructor <;> rfl
  case slotQuery => unfold slotQuery; split <;> constructor <;> rfl
  case carrierQuery => exact Outside.refl s
  case timeQuery => exact Outside.refl s
  case triggerBind =>
    unfold triggerBind
    split
    · exact Outside.refl s
    · split
      · exact Outside.refl s
      · exact outside_rebind ..
    · split
      · exact Outside.refl s
      · split
        · exact Outside.refl s
        · split
          · exact Outside.refl s
          · exact outside_rebind ..
  case triggerQuery => unfold triggerQuery; split <;> constructor <;> rfl
  case captureArm => unfold captureArm; split <;> (try split) <;> (try split) <;> constructor <;> rfl
  case captureStop => constructor <;> rfl
  case captureQuery => exact Outside.refl s
  case captureRead => unfold captureRead; split <;> (try split) <;> (try split) <;> constructor <;> rfl
  case noticeFetch =>
    unfold noticeFetch
    split
    · split
      · exact Outside.refl s
      · exact outside_fetch ..
    · split
      · exact Outside.refl s
      · split
        · exact outside_fetch ..
        · exact Outside.refl s
  case noticePeek => exact Outside.refl s
  case noticeAck => unfold noticeAck; split <;> (try split) <;> (try split) <;> constructor <;> rfl
  case noticeSetup => unfold noticeSetup; split <;> (try split) <;> constructor <;> rfl
  case identify => exact Outside.refl s
  case engineReset => exact Outside.refl s

/-! ### Every answer fits its frame (R172) -/

/-- The in-service list holds at most one entry a priority (R160). -/
theorem InServiceLaw.length_le {s : State} (h : InServiceLaw s) : s.notices.inService.length ≤ 8 := by
  have k : (s.notices.inService.map ServiceEntry.priority).Nodup :=
    List.pairwise_map.mpr (h.imp fun x => fun e => absurd (e ▸ x.1) (lt_irrefl _))
  simpa using k.length_le_card

theorem WaitingLaw.length_le {s : State} (h : WaitingLaw s) : s.arbiter.waiting.length ≤ 8 := by
  simpa using h.1.length_le_card

theorem short_refuse (s : State) (status : Status) : (refuse s status).fields.Short := trivial

theorem short_release (s : State) (z : Fin 8) (tag : Half) : (s.release z tag).fields.Short := by
  unfold State.release State.releaseAgain State.releaseLate
  repeat' split
  all_goals trivial

theorem short_fetch (s : State) (n : Source) (claimed : Bool) : (s.fetch n claimed).fields.Short := by
  unfold State.fetch; split
  · trivial
  · next body hb =>
    cases body with
    | fault pairs =>
      cases n <;> simp [State.noticeBody] at hb
      · subst hb; exact (List.length_filter_le _ _).trans (by decide)
      · split at hb <;> simp at hb
    | _ => trivial

/-- Every answer's lists are short where the laws hold and no binding carries more than 64 bits (R127): its frame holds all
its stated bytes (`statedSize_le`). -/
theorem answer_short (r : Request) (s : State) (hc : CapacityLaw s) (hw : WaitingLaw s) (hi : InServiceLaw s)
    (hb : ∀ (n : Fin 4) b, (s.line n).binding = some b → b.payload.length ≤ 64) : (answer r s).fields.Short := by
  cases r <;> simp only [answer]
  case templateBegin => unfold templateBegin; repeat' split
                        all_goals trivial
  case templateAppend => unfold templateAppend; repeat' split
                         all_goals trivial
  case templateCommit => unfold templateCommit; repeat' split
                         all_goals trivial
  case templateAbandon => unfold templateAbandon; split <;> trivial
  case templateDelete => unfold templateDelete; repeat' split
                         all_goals trivial
  case templateQuery =>
    unfold templateQuery; repeat' split
    all_goals first
      | trivial
      | (simp only [accept, ReplyFields.Short, templateReport, List.length_map, List.length_take]; omega)
  case zoneSetup => unfold zoneSetup; dsimp only; repeat' split
                    all_goals trivial
  case zoneQuery =>
    unfold zoneQuery; split
    · trivial
    · next z _ => show (((s.zone z).queue.map Job.tag).length ≤ 8); simpa using (hc.1 z).1
  case zoneReset =>
    unfold zoneReset; repeat' split
    all_goals first
      | trivial
      | (next z _ _ => show (((s.zone z).queue.map Job.tag).length ≤ 8); simpa using (hc.1 z).1)
  case faultClear => unfold faultClear; repeat' split
                     all_goals trivial
  case jobSubmit => unfold jobSubmit; repeat' split
                    all_goals trivial
  case jobRelease => unfold jobRelease; split; trivial; exact short_release ..
  case jobCancel => unfold jobCancel State.cancelActive; repeat' split
                    all_goals trivial
  case zoneFlush =>
    unfold zoneFlush; repeat' split
    all_goals first
      | trivial
      | (next z _ _ _ _ => show (((s.zone z).queue.map Job.tag).length ≤ 8); simpa using (hc.1 z).1)
  case completionTake => unfold completionTake; repeat' split
                         all_goals trivial
  case slotPlan => unfold slotPlan; split <;> trivial
  case slotQuery =>
    unfold slotQuery; split
    · trivial
    · exact (List.length_filterMap_le _ _).trans hw.length_le
  case triggerBind =>
    unfold triggerBind; repeat' split
    all_goals trivial
  case triggerQuery =>
    unfold triggerQuery; split
    · trivial
    · next n _ => exact fun b h => hb n b h
  case captureArm => unfold captureArm; repeat' split
                     all_goals trivial
  case captureRead =>
    unfold captureRead; repeat' split
    all_goals first
      | trivial
      | (simp only [accept, ReplyFields.Short, List.length_take]; omega)
  case noticeFetch =>
    unfold noticeFetch; repeat' split
    all_goals first
      | trivial
      | exact short_fetch ..
  case noticePeek => exact hi.length_le
  case noticeAck => unfold noticeAck; repeat' split
                    all_goals trivial
  case noticeSetup => unfold noticeSetup; repeat' split
                      all_goals trivial
  case identify => exact Nat.le_refl 11
  all_goals trivial

/-- The reply of every request that a run answers holds all its stated bytes, in their order (R172). -/
theorem answer_keeps_stated (r : Request) (s : State) (hc : CapacityLaw s) (hw : WaitingLaw s) (hi : InServiceLaw s)
    (hb : ∀ (n : Fin 4) b, (s.line n).binding = some b → b.payload.length ≤ 64) (k : Nat) :
    (statedOf (replyParts (answer r s).fields)).Sublist (fieldBytes (answer r s).fields k) :=
  stated_sublist_fieldBytes (statedSize_le (answer_short r s hc hw hi hb)) k

end Sys2Proof.Machine
end

