-- ==== Sys2Proof/Laws/Operands.lean ====
section
/-!
SUPPORT. What the readers of request fields accept and what they read, in the words of Safety.lean; the use counts after
several claims are given back; searches of a list that is split at what is found.
-/
namespace Sys2Proof.Machine

/-! ### The library's requests -/

theorem headerOk_iff (h : TemplateHeader) : headerOk h = true ↔ HeaderDefined h := by
  simp [headerOk, HeaderDefined]; tauto

theorem element?_iff (e : ElementRecord) (x : Element) : element? e = some x ↔ ElementRead e x := by
  unfold element?
  split
  · next h => cases x <;> simp [ElementRead, h] <;> omega
  split
  · next h => cases x <;> simp [ElementRead, h] <;> omega
  split
  · next h => cases x <;> simp [ElementRead, h] <;> omega
  split
  · next h => cases x <;> simp [ElementRead, h] <;> omega
  split
  · next h => cases x <;> simp [ElementRead, h]
  · cases x <;> simp [ElementRead, *]

theorem elements?_iff (es : List ElementRecord) (xs : List Element) :
    elements? es = some xs ↔ List.Forall₂ ElementRead es xs := by
  induction es generalizing xs with
  | nil => simp [elements?, eq_comm]
  | cons e es ih =>
    unfold elements?
    constructor
    · intro h
      split at h
      · next x ys h1 h2 =>
        injection h with h; subst h
        exact .cons ((element?_iff _ _).mp h1) ((ih _).mp h2)
      · cases h
    · intro h
      cases h with
      | cons h1 h2 => rw [(element?_iff _ _).mpr h1, (ih _).mpr h2]

theorem elements?_eq_none (es : List ElementRecord) (h : ∃ e ∈ es, ∀ x, ¬ ElementRead e x) : elements? es = none := by
  rw [Option.eq_none_iff_forall_ne_some]
  intro xs hx
  rw [elements?_iff] at hx
  obtain ⟨e, he, hne⟩ := h
  induction hx with
  | nil => simp at he
  | cons a b ih =>
    rcases List.mem_cons.mp he with h | h
    · subst h; exact hne _ a
    · exact ih h

theorem firstOver_eq_none (limit p sum : Nat) (es : List Element) (h : sum ≤ limit) :
    firstOver limit p sum es = none ↔ sum + dataBits es ≤ limit := by
  induction es generalizing p sum with
  | nil => simp [firstOver, dataBits, h]
  | cons e es ih =>
    simp only [firstOver, dataBits, List.map_cons, List.sum_cons]
    split
    · simp; omega
    · rw [ih (p + 1) (sum + e.takes) (by omega)]; simp only [dataBits]; omega

theorem firstOver_eq_some (limit p sum n : Nat) (es : List Element) (h : sum ≤ limit) :
    firstOver limit p sum es = some n ↔ ∃ k, n = p + k ∧ k < es.length ∧ sum + dataBits (es.take k) ≤ limit
      ∧ limit < sum + dataBits (es.take (k + 1)) := by
  induction es generalizing p sum with
  | nil => simp [firstOver]
  | cons e es ih =>
    simp only [firstOver]
    split
    · next h1 =>
      constructor
      · intro h2; injection h2 with h2; subst h2
        exact ⟨0, rfl, by simp, by simpa [dataBits] using h, by simpa [dataBits] using h1⟩
      · rintro ⟨k, rfl, _, h3, _⟩
        cases k with
        | zero => rfl
        | succ k => simp [dataBits] at h3; omega
    · next h1 =>
      rw [ih (p + 1) (sum + e.takes) (by omega)]
      constructor
      · rintro ⟨k, rfl, h2, h3, h4⟩
        exact ⟨k + 1, by omega, by simpa using h2, by simpa [dataBits, Nat.add_assoc] using h3,
          by simpa [dataBits, Nat.add_assoc] using h4⟩
      · rintro ⟨k, rfl, h2, h3, h4⟩
        cases k with
        | zero => simp [dataBits] at h4; omega
        | succ k =>
          exact ⟨k, by omega, by simpa using h2, by simpa [dataBits, Nat.add_assoc] using h3,
            by simpa [dataBits, Nat.add_assoc] using h4⟩

theorem firstEcho_eq_some (p taken n : Nat) (es : List Element) :
    firstEcho p taken es = some n ↔ ∃ k, n = p + k
      ∧ (∃ c, es[k]? = some (.dataEcho c) ∧ taken + bitsTakenAt es k < c)
      ∧ ∀ q c, q < k → es[q]? = some (.dataEcho c) → c ≤ taken + bitsTakenAt es q := by
  induction es generalizing p taken with
  | nil => simp [firstEcho]
  | cons e es ih =>
    have step : ∀ q, taken + e.takes + bitsTakenAt es q = taken + bitsTakenAt (e :: es) (q + 1) := by
      intro q; simp [bitsTakenAt, dataBits, Nat.add_assoc]
    have zero : taken + bitsTakenAt (e :: es) 0 = taken := by simp [bitsTakenAt, dataBits]
    have pass : firstEcho p taken (e :: es) = firstEcho (p + 1) (taken + e.takes) es →
        (∀ c, e = .dataEcho c → c ≤ taken) →
        (firstEcho p taken (e :: es) = some n ↔ ∃ k, n = p + k
          ∧ (∃ c, (e :: es)[k]? = some (.dataEcho c) ∧ taken + bitsTakenAt (e :: es) k < c)
          ∧ ∀ q c, q < k → (e :: es)[q]? = some (.dataEcho c) → c ≤ taken + bitsTakenAt (e :: es) q) := by
      intro h1 h2
      rw [h1, ih]
      constructor
      · rintro ⟨k, rfl, ⟨c, h3, h4⟩, h5⟩
        refine ⟨k + 1, by omega, ⟨c, by simpa using h3, by rw [← step]; exact h4⟩, ?_⟩
        intro q c' hq h6
        cases q with
        | zero => rw [zero]; exact h2 c' (by simpa using h6)
        | succ q => rw [← step]; exact h5 q c' (by omega) (by simpa using h6)
      · rintro ⟨k, rfl, ⟨c, h3, h4⟩, h5⟩
        cases k with
        | zero => rw [zero] at h4; have := h2 c (by simpa using h3); omega
        | succ k =>
          refine ⟨k, by omega, ⟨c, by simpa using h3, by rw [step]; exact h4⟩, ?_⟩
          intro q c' hq h6
          rw [step]; exact h5 (q + 1) c' (by omega) (by simpa using h6)
    cases e with
    | dataEcho c =>
      by_cases hc : taken < c
      · have h1 : firstEcho p taken (.dataEcho c :: es) = some p := by simp [firstEcho, hc]
        rw [h1]
        constructor
        · intro h2; injection h2 with h2; subst h2
          exact ⟨0, rfl, ⟨c, rfl, by rw [zero]; exact hc⟩, by intro q _ hq; omega⟩
        · rintro ⟨k, rfl, _, h5⟩
          cases k with
          | zero => rfl
          | succ k => have := h5 0 c (by omega) rfl; rw [zero] at this; omega
      · exact pass (by simp [firstEcho, hc, Element.takes]) (by intro c' h'; cases h'; omega)
    | _ => exact pass (by simp [firstEcho]) (by intro c' h'; cases h')

theorem toggled_iff (t : Template) : t.toggled = decide (Element.toggle ∈ t.main ++ t.rep) := by
  have k : ∀ l : List Element, l.any Element.isToggle = decide (Element.toggle ∈ l) := by
    intro l; rw [Bool.eq_iff_iff]; simp only [List.any_eq_true, decide_eq_true_eq]
    constructor
    · rintro ⟨x, hx, h⟩; cases x <;> simp [Element.isToggle] at h; exact hx
    · intro h; exact ⟨_, h, rfl⟩
  simp [Template.toggled, k]

/-! ### ZONE SETUP -/

theorem yesNo_read (b : Byte) (h : YesNoDefined b) :
    optionalField yesNo? b = some (if b = 0xFF#8 then none else some (decide (b = 0x01#8))) := by
  revert h; unfold YesNoDefined; revert b; decide

theorem yesNo_defined (b : Byte) : (optionalField yesNo? b).isSome ↔ YesNoDefined b := by
  unfold YesNoDefined; revert b; decide

theorem bandSet_read (b : Byte) (h : b.toNat < 8 ∨ b = 0xFF#8) :
    optionalField bandSet? b = some (if b = 0xFF#8 then none
      else some { baseband := b.getLsbD 0, lf := b.getLsbD 1, hf := b.getLsbD 2 }) := by
  revert h; revert b; decide

theorem bandSet_defined (b : Byte) : (optionalField bandSet? b).isSome ↔ (b.toNat < 8 ∨ b = 0xFF#8) := by
  revert b; decide

theorem group_read (b : Byte) (h : b.toNat ≤ 4 ∨ b = 0xFF#8) :
    optionalField group? b = some (if b = 0xFF#8 then none
      else some (if h : b.toNat < 4 then some ⟨b.toNat, h⟩ else none)) := by
  revert h; revert b; decide

theorem group_defined (b : Byte) : (optionalField group? b).isSome ↔ (b.toNat ≤ 4 ∨ b = 0xFF#8) := by
  revert b; decide

/-! ### Tags and claims -/

theorem tagInUse_iff (zn : Zone) (t : Half) : zn.tagInUse t = true ↔ ∃ j ∈ zn.jobs, j.tag = t := by
  unfold Zone.tagInUse Zone.jobs
  cases zn.active <;> simp [or_comm, or_and_right, exists_or]

theorem State.slot_dropUses (s : State) (js : List Job) (i : Fin 64) :
    (s.dropUses js).slot i = Slot.mk (s.slot i).template
      ((s.slot i).useCount - (js.filter fun j => decide (j.template = i)).length) := by
  induction js generalizing s with
  | nil => rfl
  | cons j js ih =>
    have : s.dropUses (j :: js) = (s.dropUse j.template).dropUses js := rfl
    rw [this, ih, State.slot_dropUse]
    by_cases h : j.template = i
    · subst h; simp; omega
    · have h' : ¬ i = j.template := fun x => h x.symm
      simp [h, h']

theorem State.dropUses_eq (s : State) (js : List Job) :
    s.dropUses js = { s with library := { s.library with slots := (s.dropUses js).library.slots } } := by
  induction js generalizing s with
  | nil => rfl
  | cons j js ih =>
    have : s.dropUses (j :: js) = (s.dropUse j.template).dropUses js := rfl
    rw [this, ih]; rfl

/-! ### Lists split at what is found -/

theorem find?_split {α : Type} (p : α → Bool) (before : List α) (j : α) (behind : List α) (h1 : ∀ k ∈ before, p k = false)
    (h2 : p j = true) : (before ++ j :: behind).find? p = some j := by
  rw [List.find?_append, List.find?_eq_none.mpr (by simpa using h1)]
  simp [h2]

theorem eraseP_split {α : Type} (p : α → Bool) (before : List α) (j : α) (behind : List α) (h1 : ∀ k ∈ before, p k = false)
    (h2 : p j = true) : (before ++ j :: behind).eraseP p = before ++ behind := by
  induction before with
  | nil => simp [h2]
  | cons a b ih => simp [List.eraseP_cons, h1 a (by simp)]; exact ih (fun k hk => h1 k (by simp [hk]))

end Sys2Proof.Machine
end

