-- ==== Sys2Proof/Laws/Playback.lean ====
section
/-!
SUPPORT. What the operations of playback do, in the words of Safety.lean: a gate that has moved, a frame that starts, a
condition that is sensed, a job that ends.
-/
namespace Sys2Proof.Machine

/-- R84: everything that moving a gate does. -/
theorem State.gateMoved_eq (s : State) (z : Fin 8) (wasOpen : Bool) : s.gateMoved z wasOpen = s.regated z wasOpen := by
  have keep : ∀ out, out = (s.zone z).emission → s = { s with zones := s.zones.set z { s.zone z with emission := out } } := by
    intro out h; subst h
    show s = s.setZone z (s.zone z)
    simp
  unfold State.gateMoved State.regated
  cases hw : wasOpen <;> cases ho : (s.zone z).gateOpen
  · simpa [gateEmission] using keep _ rfl
  · simp only [Bool.false_eq_true, if_false, State.openGate, gateEmission, State.boundWave]
    cases hb : (s.zone z).binding with
    | none => simpa using keep _ rfl
    | some g =>
      cases hv : (s.generator g).wave with
      | none => simpa [hv] using keep _ rfl
      | some w =>
        simp only [Option.bind_some, hv]
        by_cases h1 : w.high = true ∧ w.start = s.ticks
        · simp only [h1.1, h1.2, decide_true, Bool.and_self, if_true, true_and, Zone.emit]
          simp only [State.updZone, State.setZone]
          cases he : (s.zone z).emission with
          | none => simp
          | some e =>
            by_cases hr : s.ticks < e.stop
            · simp [Emission.runs, hr, Nat.not_le.mpr hr]
              rw [← he]
            · simp [Emission.runs, hr, Nat.not_lt.mp hr]
        · have h2 : ¬ (w.high = true ∧ w.start = s.ticks ∧ ∀ e ∈ (s.zone z).emission, e.stop ≤ s.ticks) :=
            fun h => h1 ⟨h.1, h.2.1⟩
          have h3 : (w.high && decide (w.start = s.ticks)) = false := by
            rw [← Bool.not_eq_true]; simpa using h1
          rw [if_neg h2]
          simpa [h3] using keep _ rfl
  · simp only [Bool.true_eq_false, if_false, if_true, State.closeGate, gateEmission, State.updZone, State.setZone]
    cases he : (s.zone z).emission with
    | none => simp
    | some e => by_cases hs : e.start = s.ticks <;> simp [Option.filter, hs]
  · simpa [gateEmission] using keep _ rfl

/-- R87: everything that starting a frame does. -/
theorem State.startFrame_eq (s : State) (z : Fin 8) (a : ActiveJob) (ha : (s.zone z).active = some a) :
    ∃ p, FrameBegun s z a s.ticks (a.play.bind PlayState.lastPhaseEnd) p
      ∧ s.startFrame z = { s with zones := s.zones.set z { s.zone z with active := some (a.begun s.timeBase p) } } := by
  refine ⟨s.firstPlay z a (a.framesStarted + 1), ?_, ?_⟩
  · constructor
    · rfl
    · simp [State.firstPlay, Template.listOf]
    · rfl
    · simp [State.firstPlay, State.phaseAt, Cursor.first]
    · simp only [State.firstPlay, Template.periodAfter]
      by_cases h : a.framesStarted = 0 <;> simp [h] <;>
        exact ⟨fun h => BitVec.eq_of_toNat_eq h, fun h => by simp [h]⟩
    · intro d hd
      simp only [State.firstPlay, Template.periodAfter] at hd
      by_cases h : a.framesStarted = 0 <;> simp [h] at hd ⊢ <;> (have := hd.2; unfold Config.ticksPerUs at this; omega)
    · rfl
  · simp [State.startFrame, ha, State.updZone, State.setZone, ActiveJob.begun]

/-- R117: what sensing an open gate does. -/
theorem State.sense_normal (s : State) (z : Fin 8) (h : s.pins.zsense[z] = .normal ∨ (s.zone z).config.dark = true) :
    s.sense z = s := by
  unfold State.sense Zone.sampling
  rcases h with h | h
  · split
    · rw [h]; rfl
    · rfl
  · simp [h]

/-- A command that finds a standing condition acts as the driver stage's report of it (R117). -/
theorem State.sense_eq_report (s : State) (z : Fin 8) (h : s.assertedReset = none) :
    Host.Outcome.next (s.sense z) = exec (.driverFault z s.pins.zsense[z]) s := by
  have : s = { s with pins := { s.pins with zsense := s.pins.zsense.set z s.pins.zsense[z] } } := by simp
  show _ = Host.Outcome.next (driverReport z s.pins.zsense[z] s)
  unfold driverReport
  rw [← this]; simp [h]

/-- R26: the zone's records after its active job has ended. -/
theorem State.endJob_zone_self (s : State) (z : Fin 8) (a : ActiveJob) (h : (s.zone z).active = some a) (o : JobOutcome) (t : Word) :
    (s.endJob z o t).zone z = { s.zone z with active := none, completions := (s.zone z).completions ++ [a.record o t] } := by
  simp [State.endJob, h]

end Sys2Proof.Machine
end

