-- ==== Sys2Proof/Tests/Slice0.lean ====
section
/-!
SUPPORT. The package's own tests: ill-formed commands, the check value of R172, single steps on small states, and for
every statement of the obligations that has hypotheses a state and operands that meet them, clause by clause.
-/
namespace Sys2Proof.Tests
open Sys2Proof.Machine

/-! ### Small states -/

/-- The projector template of section 12.2, shortened: a mark, two data bits, a toggle bit. -/
def header : TemplateHeader :=
  { carrierHigh := 70, carrierLow := 140, zeroMark := 560, zeroSpace := 560, oneMark := 560, oneSpace := 1690
    leadPeriod := 50000, repeatPeriod := 50000, minRepeats := 2, holdLimit := 20 }

def template : Template := { header := header, main := [.mark 9000, .dataNext 2, .toggle], rep := [] }

/-- Template 0 installed with this use count. -/
def installed (useCount : Nat) : State := State.reset.setSlot 0 { template := some template, useCount := useCount }

def job (tag : Half) : Job :=
  { tag := tag, template := 0, mode := .hold none, payload := [true, false], origin := .host, released := false }

def tapJob : Job := { job 7 with mode := .tap 1 }

def active (j : Job) : ActiveJob := { j.activate template with framesStarted := 1 }

/-- A play state in FRAME with a mark from 0 for 9,000 µs. -/
def framePlay : PlayState :=
  { list := .main, frameNumber := 1, cursor := Cursor.first, phase := some ⟨.mark, 9000, 0⟩, deadline := some 400000
    lastPhaseEnd := none }

/-- A play state in INTERVAL. -/
def intervalPlay : PlayState := { framePlay with phase := none, lastPhaseEnd := some 100000 }

/-- Zone 0 with these records. -/
def withZone (f : Zone → Zone) : State := (installed 1).updZone 0 f

def waiting : State := withZone fun zn => { zn with active := some (job 7 |>.activate template) }
def inFrame : State := withZone fun zn => { zn with active := some { active (job 7) with play := some framePlay } }
def inInterval : State := withZone fun zn => { zn with active := some { active (job 7) with play := some intervalPlay } }
def queued : State := withZone fun zn => { zn with queue := [job 7, job 8] }
def resetting : State := withZone fun zn => { zn with quietEnd := some 4000 }
def faulted : State := withZone fun zn => { zn with condition := .openLoad, queue := [job 7] }

def record (outcome : JobOutcome) : Completion :=
  { tag := 7, template := 0, origin := .host, hold := true, outcome := outcome, framesStarted := 3
    firstFrameStart := some 0, endTime := 5 }

def recorded (outcome : JobOutcome) : State := withZone fun zn => { zn with completions := [record outcome] }

def binding (mode : BindMode) : Binding :=
  { zone := 0, template := 0, payload := [true, false], tag := 7, mode := mode, debounce := 20000 }

/-- Line 0 with this binding and state. -/
def withLine (mode : BindMode) (state : LineState) : State :=
  (installed 1).updLine 0 fun l => { l with binding := some (binding mode), state := state }

/-- A session on this source in this state, with this former. -/
def session (source : CaptureSource) (state : SessionState) (former : Former) : Session :=
  { State.reset.newSession source 5000 20000 4 with state := state, former := former }

def capturing (c : Session) : State := { State.reset with capture := some c }

/-- Generator 0 in this half, bound to nothing. -/
def withWave (high : Bool) : State :=
  State.reset.setGenerator 0 { wave := some ⟨high, 0, 70⟩, setting := some ⟨70, 140⟩, refCount := 0, bound := [] }

def handling (code : Byte) : Handling :=
  { code := code, reply := { code := code + 0x80#8, seq := 0, status := .ok, fields := .none }, frame := [], startsAt := 0, endsAt := 100 }

/-- The port is sending a reply, with these frames in the buffer. -/
def busy (code : Byte) (buffer : List (List Byte)) : State :=
  { State.reset with port := { State.reset.port with handling := some (handling code), buffer := buffer } }

def assembling (a : Assembler) : State :=
  { State.reset with port := { State.reset.port with assembler := a, length := 2, gapEnd := some 16000 } }

def inReset (cause : ResetCause) : State := State.reset.beginReset cause

/-! ### Ill-formed commands, which the check refuses -/

theorem test_append_none_illFormed : (Instr.templateAppend 0 0 []).wellFormed = false := by decide
theorem test_append_thirteen_illFormed :
    (Instr.templateAppend 0 0 (List.replicate 13 ⟨1, 0, 1⟩)).wellFormed = false := by decide
theorem test_append_twelve_wellFormed :
    (Instr.templateAppend 0 0 (List.replicate 12 ⟨1, 0, 1⟩)).wellFormed = true := by decide
theorem test_submit_shortPayload_illFormed : (Instr.jobSubmit 0 ⟨0, 7, 0, 0, 0, 0, 9, [0]⟩).wellFormed = false := by decide
theorem test_submit_payload_wellFormed : (Instr.jobSubmit 0 ⟨0, 7, 0, 0, 0, 0, 9, [0, 0]⟩).wellFormed = true := by decide
theorem test_bind_longPayload_illFormed :
    (Instr.triggerBind 0 0 (some ⟨0, 0, 0, 0, 7, 0, 8, [0, 0]⟩)).wellFormed = false := by decide
theorem test_setup_fourteen_illFormed :
    (Instr.noticeSetup 0 0 (List.replicate 14 ⟨0, 0, 0⟩)).wellFormed = false := by decide
theorem test_setup_thirteen_wellFormed :
    (Instr.noticeSetup 0 0 (List.replicate 13 ⟨0, 0, 0⟩)).wellFormed = true := by decide

/-! ### The link -/

/-- R172: over the nine characters 123456789 the check value is 29B1h. -/
theorem test_crc : crcOf [0x31, 0x32, 0x33, 0x34, 0x35, 0x36, 0x37, 0x38, 0x39] = 0x29B1#16 := by decide +kernel

/-- No row of the table gives bits (log 1). -/
theorem test_decode_none : decodeTableWord 8 0x10 = none := rfl

theorem test_identify_fields : identifyBytes (identifyReport State.reset) =
    [0x49, 0x54, 0x52, 0x45, 0x44, 0x4F, 0x43, 0x56, 0x32, 0x30, 0x38, 0x43, 8, 64, 0x00, 0x06, 4, 4, 0x00, 0x02, 0, 0] := by rfl

/-! ### Single steps -/

theorem test_reset_idles : step State.reset = .next State.reset.tick := by rfl
theorem test_reset_pick : State.reset.pick = some .engine ∧ State.reset.attn = true := by decide
theorem test_fetch_claims_engine : (noticeFetch none State.reset).state.notices.inService = [⟨.engine, 0⟩]
    ∧ (noticeFetch none State.reset).state.attn = false := by decide
theorem test_submit_waits : ((jobSubmit ⟨0, 7, 0, 1, 0, 0, 2, [1]⟩ (installed 0)).state.zone 0).state = .waiting
    ∧ (jobSubmit ⟨0, 7, 0, 1, 0, 0, 2, [1]⟩ (installed 0)).state.arbiter.waiting = [0] := by decide
theorem test_submit_badPayload : (jobSubmit ⟨0, 7, 0, 1, 0, 0, 3, [1]⟩ (installed 0)).status = .badPayload := by decide
theorem test_override_low : (jobSubmit ⟨0, 7, 0, 1, 0, 2, 2, [1]⟩ (installed 0)).status = .badField := by decide
theorem test_frame_phases : framePhases header [true, false] true 0 template.main =
    [(.mark, 9000), (.mark, 560), (.space, 1690), (.mark, 560), (.space, 560), (.mark, 560), (.space, 1690)] := by decide
theorem test_phase_end_mark_joins_mark : ((phaseEnd 0 inFrame).zone 0).gateOpen = true
    ∧ (phaseEnd 0 inFrame).ticks = 72000 := by decide
theorem test_fault_ends_job : ((driverReport 0 .openLoad inFrame).zone 0).state = .faulted
    ∧ (driverReport 0 .openLoad inFrame).notices.faultLatch = [(0, .openLoad)] := by decide
/-- R174: a start bit holds off the gap timer. -/
theorem test_start_bit_holds_gap_timer : gapTimerExpiry (assembling .body).rxdStarts = (assembling .body).rxdStarts
    ∧ ({ assembling .body with ticks := 16000 } : State).portTimers = [⟨16000, .gapTimerExpiry⟩]
    ∧ (assembling .body).rxdStarts.portTimers = [] := by decide
/-- R183: a character that began before release is not received; the next one is. -/
theorem test_character_across_release : ∃ s : State, s = State.released { Pins.atReset with rxdBusy := true } .pin 0 []
    ∧ (receiveByte 0xC3 .ends s).port.assembler = .hunting
    ∧ (receiveByte 0xC3 .ends (receiveByte 0xC3 .ends s)).port.assembler = .length := ⟨_, rfl, by decide⟩
/-- R171: start bit, the bits of C3h least significant first, stop bit; then the line rests. -/
theorem test_txd_bits : (List.range 11).map (lineBit [0xC3]) =
    [false, true, true, false, false, false, false, true, true, true, true] := by decide
theorem test_txd_at_bit_end : ∃ s : State, s = { State.reset with port := { State.reset.port with
      handling := some { handling 0x35 with frame := [0xC3] } } }
    ∧ ({ s with ticks := 69 } : State).txd = false ∧ ({ s with ticks := 70 } : State).txd = true := ⟨_, rfl, by decide⟩
/-- R70: a high half of 70 ticks goes on after its zone is granted on a generator of 140 begun at the same tick. -/
theorem test_old_half_keeps_own_width : ∃ s : State, s = ((withWave true).updZone 0 fun zn =>
      { zn with active := some { active (job 7) with play := some framePlay, binding := some 0 }, emission := some ⟨0, 70, false⟩ })
    ∧ s.emissionStop 0 = none
    ∧ (s.setGenerator 0 { wave := some ⟨true, 0, 140⟩, setting := some ⟨140, 70⟩, refCount := 1, bound := [0] }).emissionStop 0
        = some 70 := ⟨_, rfl, by decide⟩
/-- R151, R143: the reply to STOP carries the state before and the count; the reply to ARM the state after as well. -/
theorem test_stop_and_arm_parts : replyParts (captureStop State.reset).fields = [.stated [0x00], .unstated (some 0)]
    ∧ replyParts (captureArm 0x00 0 1 1000 2 State.reset).fields = [.stated [0x00], .unstated (some 0), .stated [0x01]] := by decide
/-- R167, R172: with eight claims the reply to PEEK still ends with threshold and ATTN. -/
theorem test_peek_ends_with_attn : ((replyParts (.noticePeek [] (List.replicate 8 ⟨.engine, 0⟩) none 8 false)).flatMap
    statedPart) = List.replicate 16 0 ++ [8, 0] := by decide
/-- R18: TEMPLATE QUERY returns the unused fields as 0. -/
theorem test_query_records : (templateReport template 0 0).elements = [⟨1, 0, 9000⟩, ⟨3, 2, 0⟩, ⟨5, 0, 0⟩] := by decide
theorem test_capture_short_mark_stored : storedDuration 7 = 1 ∧ storedDuration 8 = 1 ∧ storedDuration 15 = 1
    ∧ storedDuration 16 = 2 ∧ storedDuration (65536 * 8) = 65535 := by decide

/-! ### What each statement supposes can be met -/

theorem witness_idleStep : State.reset.pending = [] ∧ { State.reset with ticks := 8000 }.due = [.slotBoundary]
    ∧ { resetting with ticks := 8000 }.due = [.slotBoundary, .quietTimeExpiry 0]
    ∧ State.reset.due = [] ∧ State.reset.loopbackEdge = none := by decide

theorem witness_idleStep_loopback : ∃ s : State, s.pending = [] ∧ s.due = []
    ∧ s.loopbackEdge = some (.captureRisingEdge .loopback) :=
  ⟨(capturing (session (.loopback 0) .armed (.space none))).updZone 0 fun zn => { zn with emission := some ⟨0, 70, true⟩ },
    by decide⟩

theorem witness_nothingReceivedInReset : (inReset .pin).assertedReset = some .pin
    ∧ requestOf (.timeQuery 5) = some (5, .timeQuery) := by decide

theorem witness_resetBegins : ({ State.reset with supply := .below } : State).supply = .below
    ∧ State.reset.supply = .stable ∧ State.reset.supply ≠ .below ∧ State.reset.pins.resetN = true
    ∧ ({ State.reset with supply := .rising } : State).supply ≠ .stable := by decide

theorem witness_resetReleases : ∃ low rising : State, low.assertedReset = some .pin ∧ low.supply = .stable
    ∧ low.pins.resetN = false ∧ rising.assertedReset = some .power ∧ rising.supply = .rising ∧ rising.pins.resetN = true
    ∧ (inReset .request).assertedReset = some .request :=
  ⟨resetNLow State.reset, supplyRise { State.reset with supply := .below }, by decide⟩

theorem witness_engineReset : State.reset.ready ∧ (busy 0x02#8 []).port.handling = some (handling 0x02#8)
    ∧ (handling 0x02#8).code = 0x02#8 ∧ (handling 0x02#8).reply.status = .ok := by decide

theorem witness_answeredByFrame : requestOf (.timeQuery 5) = some (5, .timeQuery) ∧ (Instr.timeQuery 5).wellFormed = true
    ∧ State.reset.ready ∧ State.reset.port.baud = false
    ∧ (State.released { Pins.atReset with baud := true } .pin 0 []).ready
    ∧ (State.released { Pins.atReset with baud := true } .pin 0 []).port.baud = true := by decide

theorem witness_answered_badLength : requestOf (.templateAppend 5 0 []) = some (5, .templateAppend 0 [])
    ∧ (Instr.templateAppend 5 0 []).wellFormed = false ∧ State.reset.ready := by decide

/-- Replies whose bytes are all stated, and one that is not but opens with its header record. -/
theorem witness_answered_stated : (statedBytes (answer .identify State.reset).fields).isSome
    ∧ (statedBytes (answer .timeQuery State.reset).fields).isSome ∧ (installed 0).ready
    ∧ (answer (.templateQuery 0 0) (installed 0)).fields = .templateQuery (templateReport template 0 0) :=
  ⟨rfl, rfl, by decide, rfl⟩

/-- A reply of one byte, at both rates: its second bit, and the rest behind its last. -/
theorem witness_txd : ∃ h : Handling, h = { handling 0x35 with frame := [0xC3] } ∧ h.startsAt = 0 ∧ h.frame[0]? = some 0xC3
    ∧ State.reset.port.baud = false ∧ 1 * 625 ≤ (70 - 0) * 9 ∧ (70 - 0) * 9 < (1 + 1) * 625 ∧ 1 = 0 * 10 + 1
    ∧ h.frame.length * 10 ≤ 10 ∧ 10 * 625 ≤ (695 - 0) * 9 ∧ (695 - 0) * 9 < (10 + 1) * 625
    ∧ 1 * 625 ≤ (18 - 0) * 36 ∧ (18 - 0) * 36 < (1 + 1) * 625 := ⟨_, rfl, by decide⟩

theorem witness_busyPort : (busy 0x35#8 [[], [], []]).assertedReset = none
    ∧ (busy 0x35#8 [[], [], []]).port.buffer.length < 4 ∧ 4 ≤ (busy 0x35#8 [[], [], [], []]).port.buffer.length := by decide

theorem witness_assembler : (assembling .hunting).assertedReset = none ∧ (assembling .length).port.assembler = .length
    ∧ (assembling .body).port.gapEnd = some 16000 ∧ (assembling .body).pins.rxdBusy = false
    ∧ 2 ≤ (2 : Byte).toNat ∧ (64 : Byte).toNat ≤ 64 ∧ (1 : Byte).toNat < 2 ∧ 64 < (65 : Byte).toNat := by decide

theorem witness_assembler_frame : ∃ (s : State) (b : Byte), s.port.assembler = .checkLow
    ∧ s.port.checkHigh ++ b = s.port.check ∧ s.port.checkHigh ++ (b + 1) ≠ s.port.check
    ∧ s.port.body = requestBody 5 .timeQuery :=
  ⟨{ State.reset with port := { State.reset.port with
      assembler := .checkLow, body := [0x35, 5], check := 0xABCD#16, checkHigh := 0xAB } }, 0xCD, by decide⟩

/-- A character across release; a frame that passes its check while another is in handling, the buffer short or full. -/
theorem witness_assembler_deaf : (State.released { Pins.atReset with rxdBusy := true } .pin 0 []).port.deaf = true
    ∧ (assembling .length).port.deaf = false := by decide

theorem witness_assembler_busy : ∃ s : State, s = { State.reset with port := { (busy 0x35#8 [[], [], []]).port with
      assembler := .checkLow, check := 0xABCD#16, checkHigh := 0xAB } }
    ∧ s.port.checkHigh ++ (0xCD : Byte) = s.port.check ∧ s.port.handling = some (handling 0x35#8)
    ∧ s.port.buffer.length < 4 ∧ s.port.deaf = false ∧ s.assertedReset = none := ⟨_, rfl, by decide⟩

theorem witness_unread_length : UnreadBody 0x13 [1] .badLength :=
  .inr ⟨rfl, ⟨.templateAbandon, rfl⟩, by intro r h _ k; cases r <;> simp [requestCode] at h; simp [requestFields] at k⟩

theorem witness_replySent : (busy 0x35#8 []).port.handling = some (handling 0x35#8) ∧ (handling 0x35#8).code ≠ 0x02#8
    ∧ (Request.timeQuery).lengthOk = true ∧ (busy 0x35#8 [requestBody 5 .timeQuery]).port.buffer = [requestBody 5 .timeQuery]
    ∧ (busy 0x35#8 [[0x7F, 5]]).port.buffer = [[0x7F, 5]] := by decide

theorem witness_unread_code : UnreadBody 0x7F [] .unknown := .inl ⟨rfl, by intro r; cases r <;> simp [requestCode]⟩

theorem witness_readsBack : (Request.templateAppend 0 (List.replicate 12 ⟨5, 0, 0⟩)).lengthOk = true
    ∧ (Request.noticeSetup 0 (List.replicate 13 ⟨0, 0, 0⟩)).lengthOk = true
    ∧ (Request.jobSubmit ⟨0, 7, 0, 0, 0, 0, 255, List.replicate 32 0⟩).lengthOk = true := by decide

theorem witness_refusal : (answer .templateAbandon State.reset).status ≠ .ok := by decide

theorem witness_begin : State.reset.ready ∧ 64 ≤ (64 : Byte).toNat ∧ HeaderDefined header
    ∧ ¬ HeaderDefined { header with carrierLow := 0 } ∧ ¬ HeaderDefined { header with holdLimit := 1 } := by decide

/-- A staging area with these lists. -/
def staging (main rep : List Element) : State :=
  (installed 0).setStaging (some { target := 0, header := header, main := main, rep := rep })

theorem witness_append : (staging [] []).ready ∧ State.reset.library.staging = none ∧ 2 ≤ (2 : Byte).toNat
    ∧ (staging [] []).library.staging = some { target := 0, header := header, main := [], rep := [] } := by decide

theorem witness_append_elements : List.Forall₂ ElementRead [⟨1, 0, 1⟩] [.mark 1]
    ∧ (∀ x, ¬ ElementRead ⟨0, 0, 1⟩ x) ∧ listCapacity .main < (List.replicate 48 Element.toggle).length + 1
    ∧ listCapacity .rep < (List.replicate 16 Element.toggle).length + 1 :=
  ⟨.cons ⟨rfl, rfl, by decide⟩ .nil, fun x h => by cases x <;> simp [ElementRead] at h, by decide, by decide⟩

theorem witness_valid : ValidStaging { target := 0, header := header, main := template.main, rep := [] } := by
  refine ⟨by decide, ⟨.mark 9000, by decide, rfl⟩, .inl rfl, by decide, ?_, by simp, by decide, by decide, by decide, by decide⟩
  intro p c h
  match p with
  | 0 => cases h
  | 1 => cases h
  | 2 => cases h
  | p + 3 => simp [template] at h

/-- One staged content for each reason, at the first position that fails. -/
theorem witness_reasons : ∃ v : List Element → List Element → TemplateHeader → Option Invalid,
    (v = fun main rep h => validate { target := 0, header := h, main := main, rep := rep })
    ∧ v [] [.space 1] header = some .emptyMain ∧ v [.space 1] [] header = some (.noMark .main)
    ∧ v [.mark 1] [.space 1] header = some (.noMark .rep)
    ∧ v [.dataNext 64, .toggle, .dataNext 1] [] header = some (.dataOver64 2)
    ∧ v [.dataNext 2, .dataEcho 2, .dataEcho 3] [] header = some (.echoExceeds .main 2)
    ∧ v [.dataNext 2] [.dataNext 1, .dataEcho 2] header = some (.echoExceeds .rep 1)
    ∧ v [.dataNext 2] [.dataNext 2, .dataNext 1] header = some (.repeatDataExceeds 1)
    ∧ v [.mark 1] [] { header with leadPeriod := 999 } = some (.periodRange .main)
    ∧ v [.mark 1] [] { header with repeatPeriod := 1000001 } = some (.periodRange .rep)
    ∧ v [.mark 1] [] { header with minRepeats := 20 } = some .holdBelowMin := ⟨_, rfl, by decide⟩

theorem witness_commit : (staging template.main []).ready ∧ (State.slot (staging template.main []) 0).useCount = 0
    ∧ (State.slot ((staging template.main []).addUse 0) 0).useCount ≠ 0
    ∧ validate { target := 0, header := header, main := [], rep := [] } = some .emptyMain
    ∧ template.main.length ≤ 1536 - (staging template.main []).library.usedCells := by decide

/-- A full pool: a staged template of more cells than are free. -/
theorem witness_commit_noSpace : ∃ s : State, s.library.staging.isSome ∧ (s.slot 0).useCount = 0
    ∧ (1536 - s.library.usedCells) + (s.slot 0).cells < template.main.length + 1 :=
  ⟨{ staging (.mark 1 :: template.main) [] with library := { (staging (.mark 1 :: template.main) []).library with usedCells := 1536 } },
    by decide⟩

theorem witness_abandon : (staging [] []).library.staging ≠ none ∧ State.reset.library.staging = none := by decide

theorem witness_delete : 64 ≤ (255 : Byte).toNat ∧ (State.reset.slot 63).template = none
    ∧ ((installed 1).slot 0).useCount ≠ 0 ∧ ((installed 0).slot 0).template = some template
    ∧ ((installed 0).slot 0).useCount = 0 := by decide

theorem witness_queries : (template.main ++ template.rep).length ≤ (3 : Byte).toNat
    ∧ (2 : Byte).toNat < (template.main ++ template.rep).length := by decide

theorem witness_zoneSetup : SetupDefined 0x00 0x07 0x04 0xFF ∧ ¬ SetupDefined 0x02 0x07 0x04 0xFF
    ∧ ¬ SetupDefined 0x00 0x08 0x04 0xFF ∧ ¬ SetupDefined 0x00 0x07 0x05 0xFF ∧ queued.ready
    ∧ (queued.zone 0).config.enabled = true ∧ (queued.zone 0).queue ≠ [] ∧ (inFrame.zone 0).active ≠ none := by decide

theorem witness_zoneQuery : 8 ≤ (8 : Byte).toNat ∧ State.reset.ready := by decide

theorem witness_submit : (installed 0).ready ∧ (Request.jobSubmit ⟨0, 7, 0, 1, 0, 20, 2, [1]⟩).lengthOk = true
    ∧ (0 : Byte) = byteOf (0 : Fin 8) ∧ (0 : Byte) = byteOf (0 : Fin 64) ∧ ((installed 0).zone 0).config.enabled = true
    ∧ ((installed 0).zone 0).quietEnd = none ∧ ((installed 0).zone 0).config.effective.has (bandOf header) = true
    ∧ dataBits template.main = 2 ∧ 64 < (65 : Byte).toNat ∧ (queued.zone 0).jobs.map Job.tag = [7, 8]
    ∧ 8 ≤ (List.replicate 8 (job 7)).length := by decide

theorem witness_submit_mode : ModeRead ⟨0, 7, 0, 1, 0, 20, 2, [1]⟩ (.hold (some 20))
    ∧ ¬ OverrideOutside (installed 0) 0 (.hold (some 20)) ∧ OverrideOutside (installed 0) 0 (.hold (some 21))
    ∧ OverrideOutside (installed 0) 0 (.hold (some 2)) ∧ (∀ m, ¬ ModeRead ⟨0, 7, 0, 2, 0, 0, 2, [1]⟩ m) := by
  refine ⟨⟨rfl, rfl, by decide, by decide⟩, ?_, ⟨template, rfl, by decide⟩, ⟨template, rfl, by decide⟩, ?_⟩
  · rintro ⟨t, h, k⟩
    have : template = t := Option.some.inj h
    subst this; revert k; decide
  · intro m h
    match m with
    | .tap _ => exact absurd h.1 (by decide)
    | .hold none => exact absurd h.1 (by decide)
    | .hold (some _) => exact absurd h.1 (by decide)

theorem witness_activation : (queued.zone 0).config.enabled = true ∧ (queued.zone 0).active = none
    ∧ (queued.zone 0).condition = .normal ∧ (queued.zone 0).quietEnd = none ∧ (queued.zone 0).queue = [job 7, job 8]
    ∧ (queued.zone 0).completions.length < 4
    ∧ (queued.zone 0).config.effective.has (bandOf (queued.template 0).header) = true
    ∧ (queued.zone 0).config.effective.has (bandOf { header with carrierHigh := 0, carrierLow := 0 }) = false
    ∧ (waiting.zone 0).active ≠ none := by decide

theorem witness_take : (recorded .done).ready ∧ ((recorded .done).zone 0).completions = [record .done]
    ∧ (State.reset.zone 0).completions = [] := by decide

theorem witness_ended : (inFrame.zone 0).active = some { active (job 7) with play := some framePlay } := by decide

theorem witness_release : inFrame.ready ∧ (inFrame.zone 0).quietEnd = none ∧ (resetting.zone 0).quietEnd.isSome
    ∧ (job 7).mode.isHold = true ∧ (job 7).released = false ∧ (active (job 7)).framesStarted < 1 + header.minRepeats.toNat
    ∧ intervalPlay.phase = none ∧ intervalPlay.lastPhaseEnd = some 100000 ∧ (queued.zone 0).queue = [] ++ job 7 :: [job 8]
    ∧ tapJob.mode.isHold = false ∧ ((recorded .limit).zone 0).completions = [] ++ record .limit :: []
    ∧ (record .done).outcome ≠ .limit ∧ (queued.zone 0).queuedWith 8 = some (job 8) := by decide

theorem witness_cancel : (inFrame.zone 0).active.map ActiveJob.state = some .frame ∧ (0x00 : Byte).toNat < 2
    ∧ 2 ≤ (0x02 : Byte).toNat ∧ (inInterval.zone 0).active.map ActiveJob.state = some .interval
    ∧ (waiting.zone 0).active.map ActiveJob.state = some .waiting ∧ (job 7).tag = 7 := by decide

theorem witness_immediate : (inFrame.zone 0).gateOpen = true ∧ (inInterval.zone 0).gateOpen = false
    ∧ ((inFrame.updZone 0 fun zn => { zn with emission := some ⟨0, 70, false⟩ }).zone 0).emission = some ⟨0, 70, false⟩
    ∧ ({ inFrame with ticks := 10 } : State).ticks ≠ 0 := by decide

theorem witness_flush : (0x02 : Byte).toNat < 3 ∧ 3 ≤ (0x03 : Byte).toNat ∧ (queued.zone 0).active = none
    ∧ (inFrame.zone 0).quietEnd = none := by decide

theorem witness_faultClear : (faulted.zone 0).state = .faulted ∧ faulted.ready ∧ (queued.zone 0).state ≠ .faulted
    ∧ (resetting.zone 0).state = .resetting := by decide

theorem witness_zoneReset : (inFrame.zone 0).quietEnd = none ∧ (resetting.zone 0).quietEnd = some 4000
    ∧ (resetting.zone 0).active = none ∧ (resetting.zone 0).queue = [] ∧ (resetting.zone 0).condition = .normal := by decide

theorem witness_driverFault : inFrame.assertedReset = none ∧ (inFrame.zone 0).gateOpen = true
    ∧ (inFrame.zone 0).config.dark = false ∧ Condition.openLoad = FaultKind.condition .openLoad
    ∧ Condition.overload = FaultKind.condition .overload ∧ (waiting.zone 0).gateOpen = false := by decide

theorem witness_slotPlan : (256 : Half).toNat ≤ 256 ∧ 256 < (257 : Half).toNat ∧ 1 ≤ (1 : Half).toNat
    ∧ (∀ z : Fin 8, (Vector.replicate 8 (1 : Half))[z] ≠ 0)
    ∧ ((Vector.replicate 8 (1 : Half)).set 7 0)[7] = 0 := by decide

theorem witness_sharedQueries : (1 : Byte).toNat < 2 ∧ 2 ≤ (2 : Byte).toNat ∧ State.reset.ready := by decide

theorem witness_boundary : (inReset .pin).assertedReset ≠ none ∧ waiting.assertedReset = none := by decide

/-- Zone 0 is in group 1, whose lock zone 2 holds. -/
def locked : State :=
  let s := waiting.updZone 0 fun zn => { zn with config := { zn.config with group := some 1 } }
  { s with arbiter := { s.arbiter with locks := s.arbiter.locks.set 1 (some 2) } }

/-- The plan boundary, with a plan staged. -/
theorem witness_boundary_plan : ∃ a : Arbiter, a = { Arbiter.reset with slotIndex := 15, stagedPlan := some ⟨1, Vector.replicate 8 1⟩ }
    ∧ (a.slotIndex.val + 1) % 16 = 0 ∧ (a.step 0).activePlan.length = 1 ∧ (a.step 0).stagedPlan = none
    ∧ ({ a with slotIndex := 14 }.step 0).activePlan.length = 20 := ⟨_, rfl, by decide⟩

theorem witness_grant : (waiting.zone 0).active = some ((job 7).activate template)
    ∧ waiting.arbiter.activePlan.masks[(0 : Fin 8)].getLsbD waiting.arbiter.slotIndex.val = true
    ∧ (waiting.zone 0).config.group = none ∧ carrierOf (waiting.template 0).header = some ⟨70, 140⟩
    ∧ waiting.obtainable ⟨70, 140⟩ = some 0 ∧ (locked.zone 0).config.group = some 1
    ∧ locked.arbiter.locks[(1 : Fin 4)] ≠ none := by decide

/-- Every generator runs another setting: nothing is obtainable for the waiting job. -/
theorem witness_grant_noCarrier : ∃ s : State,
    s = { waiting with generators := Vector.replicate 4 ⟨some ⟨true, 0, 9⟩, some ⟨9, 9⟩, 1, [1]⟩ }
    ∧ carrierOf (s.template 0).header = some ⟨70, 140⟩ ∧ s.obtainable ⟨70, 140⟩ = none
    ∧ carrierOf { header with carrierHigh := 0, carrierLow := 0 } = none := ⟨_, rfl, by decide⟩

theorem witness_obtained : ((withWave true).generator 0).wave.isSome = true
    ∧ ((withWave true).generator 0).setting = some ⟨70, 140⟩ ∧ (State.reset.generator 0).wave = none
    ∧ (withWave true).obtainable ⟨9, 9⟩ = some 1 := by decide

theorem witness_halves : ((withWave true).generator 0).wave = some ⟨true, 0, 70⟩
    ∧ ((withWave false).generator 0).wave = some ⟨false, 0, 70⟩ ∧ (State.reset.generator 0).wave = none
    ∧ (State.reset.zone 0).emission = none := by decide

/-- A mark of a job without a carrier, on a zone that is not dark. -/
theorem witness_outputs : PlaysMark (inFrame.zone 0) ∧ ∃ s : State,
    s = inFrame.setSlot 0 { template := some { template with header := { header with carrierHigh := 0, carrierLow := 0 } }, useCount := 1 }
    ∧ PlaysBaseband s 0 ∧ s.loopback 0 = true ∧ s.zout 0 = true ∧ (s.zone 0).config.dark = false ∧ inFrame.zout 0 = false :=
  ⟨⟨_, _, _, rfl, rfl, rfl, rfl⟩, _, rfl, ⟨_, rfl, rfl, rfl⟩, by decide⟩

theorem witness_cursor : ∀ e ∈ template.main, e ≠ .dataNext 0 ∧ e ≠ .dataEcho 0 := by decide

theorem witness_decision : (active (job 7)).cancelAfterFrame = false ∧ tapJob.mode = .tap 1 ∧ (job 7).mode = .hold none
    ∧ (active tapJob).framesStarted < (active tapJob).framesTarget ∧ (active (job 7)).framesStarted ≠ 4096
    ∧ ({ active (job 7) with framesStarted := 20 } : ActiveJob).framesStarted = (active (job 7)).framesTarget := by decide

theorem witness_phaseEnd : (inFrame.zone 0).active = some { active (job 7) with play := some framePlay }
    ∧ framePlay.phase = some ⟨.mark, 9000, 0⟩ ∧ inFrame.pins.zsense[(0 : Fin 8)] = .normal ∧ inFrame.assertedReset = none
    ∧ (waiting.zone 0).phase = none := by decide

/-- Zone 0 in the last phase of its frame, with this job and this deadline. -/
def lastPhase (j : Job) (deadline : Option Nat) : State :=
  ({ State.reset with ticks := 10 }.setSlot 0 { template := some { template with main := [.mark 9000] }, useCount := 1 }).updZone 0
    fun zn => { zn with active := some { active j with play := some { framePlay with deadline := deadline } } }

theorem witness_phaseEnd_frameEnd : (Cursor.first.next [.mark 9000]).phase header [] false [.mark 9000] = none
    ∧ frameEndDecision (active (job 7)) template = none
    ∧ frameEndDecision { active tapJob with framesStarted := 2 } template = some .done
    ∧ max (lastPhase (job 7) none).ticks (0 + 9000 * 8) = 72000 ∧ (72000 : Nat) < 400000 := by decide

/-- The interval that is left, the next frame at once with the deadline passed, and the job's end. -/
theorem test_phaseEnd_frameEnd : ((phaseEnd 0 (lastPhase (job 7) (some 400000))).zone 0).state = .interval
    ∧ ((phaseEnd 0 (lastPhase (job 7) (some 72000))).zone 0).state = .frame
    ∧ ((phaseEnd 0 (lastPhase { tapJob with mode := .tap 0 } none)).zone 0).state = .idle := by decide

theorem witness_frameTimer : (inInterval.zone 0).active = some { active (job 7) with play := some intervalPlay }
    ∧ intervalPlay.phase = none ∧ intervalPlay.deadline = some 400000 ∧ (State.reset.zone 0).active = none := by decide

theorem witness_bind : (installed 0).ready ∧ 4 ≤ (4 : Byte).toNat ∧ ((installed 0).line 0).binding = none
    ∧ ((withLine .levelHold .holding).line 0).binding ≠ none ∧ ((withLine .levelHold .holding).line 0).state = .holding
    ∧ (Request.triggerBind 0 (some ⟨0, 0, 2, 255, 7, 50000, 2, [1]⟩)).lengthOk = true ∧ dataBits template.main = 2 := by decide

theorem witness_bind_read : BindingRead ⟨0, 0, 2, 255, 7, 20000, 2, [1]⟩ (binding .levelHold)
    ∧ (∀ b, ¬ BindingRead ⟨0, 0, 0, 255, 7, 20000, 2, [1]⟩ b) := by
  refine ⟨⟨rfl, rfl, by decide, rfl, rfl, by decide⟩, ?_⟩
  intro b h
  have hm := h.mode
  cases hb : b.mode with
  | edgeTap n => rw [hb] at hm; obtain ⟨_, h2, h3⟩ := hm; subst h2; exact absurd h3 (by decide)
  | edgeRetrigger n => rw [hb] at hm; exact absurd hm.1 (by decide)
  | levelHold => rw [hb] at hm; simp [BindModeRead] at hm

theorem witness_pin : State.reset.assertedReset = none ∧ State.reset.pins.trig[(0 : Fin 4)] ≠ true
    ∧ (State.reset.line 0).taken ≠ true ∧ (State.reset.line 0).debounceEnd = none
    ∧ ((withLine .levelHold .armed).line 0).binding = some (binding .levelHold) ∧ 0 < (binding .levelHold).debounce
    ∧ ((withLine .levelHold .armed).pinMoved 0 true |>.line 0).debounceEnd = some 160000 := by decide

theorem witness_lineEvents : ((withLine (.edgeTap 1) .armed).line 0).state = .armed
    ∧ (binding (.edgeTap 1)).mode = .edgeTap 1 ∧ ((withLine .levelHold .holding).line 0).state = .holding
    ∧ (withLine .levelHold .armed).lineJudge (binding .levelHold) = none
    ∧ inFrame.lineJudge (binding .levelHold) ≠ none
    ∧ (binding (.edgeRetrigger 2)).mode = .edgeRetrigger 2 ∧ ((withLine (.edgeTap 1) .waitLow).line 0).state = .waitLow
    ∧ min ((active tapJob).framesStarted + 0) 4096 ≤ (active tapJob).framesStarted := by decide

theorem witness_submission : queued.lineJudge (binding .levelHold) = some .duplicateTag
    ∧ (installed 1).lineJudge (binding .levelHold) = none := by decide

theorem witness_captureRequests : State.reset.ready ∧ LimitsDefined 1 1000 512 ∧ ¬ LimitsDefined 0 1000 512
    ∧ ¬ LimitsDefined 1 999 512 ∧ ¬ LimitsDefined 1 1000 513 ∧ ¬ LimitsDefined 1 1000 1
    ∧ (session .capd .armed (.space none)).isRunning ∧ ¬ (session .capd .done (.space none)).isRunning
    ∧ (24 : Byte).toNat ≤ 24 ∧ 24 < (25 : Byte).toNat ∧ (0 : Byte).toNat < 1 := by decide

theorem witness_captureSource : SourceRead 0x02 7 (.loopback 7) ∧ SourceRead 0x00 255 .capd
    ∧ (∀ source, ¬ SourceRead 0x02 8 source) := by
  refine ⟨⟨rfl, rfl⟩, rfl, ?_⟩
  intro source h
  cases source with
  | capd => simp [SourceRead] at h
  | capc => simp [SourceRead] at h
  | loopback z =>
    have h2 : z.val = 8 := h.2
    have h3 := z.isLt
    omega

theorem witness_capd : (capturing (session .capd .armed (.initial none))).pins.capd ≠ false
    ∧ (session .capd .recording (.space (some 0))).isRunning ∧ (session .capd .recording (.mark 0 0 none)).source = .capd := by
  decide

theorem witness_carrierEdges : EdgeTaken (capturing (session .capc .armed (.space none))) (session .capc .armed (.space none)) .capc true
    ∧ EdgeTaken (capturing (session .capc .recording (.mark 0 0 none))) (session .capc .recording (.mark 0 0 none)) .capc false
    ∧ (session .capc .recording (.mark 0 0 (some 70))).isRunning
    ∧ (0 : Nat) + 160 * 8 ≤ 1280 ∧ (1279 : Nat) < 0 + 160 * 8 :=
  ⟨⟨rfl, .inl ⟨rfl, rfl⟩⟩, ⟨rfl, .inl ⟨rfl, rfl⟩⟩, by decide⟩

theorem witness_captureTimers : (session .capc .armed (.initial none)).state = .armed
    ∧ (session .capc .recording (.space (some 0))).former = .space (some 0)
    ∧ (session .capc .recording (.mark 0 0 none)).state = .recording := by decide

theorem witness_fetch : State.reset.ready ∧ State.reset.pick = some .engine ∧ (installed 0).sourcePending (.zone 7) = false
    ∧ (noticeFetch none State.reset).state.pick = none ∧ 13 ≤ (13 : Byte).toNat
    ∧ (recorded .done).sourcePending (.zone 0) = true ∧ (recorded .done).inService (.zone 0) = false := by decide

theorem witness_peekAckSetup : (noticeFetch none State.reset).state.notices.inService = [] ++ ⟨.engine, 0⟩ :: []
    ∧ State.reset.notices.inService = [] ∧ 9 ≤ (9 : Byte).toNat ∧ (9 : Byte) ≠ 0xFF#8 ∧ (8 : Byte).toNat ≤ 8
    ∧ EntryDefined ⟨12, 7, 1⟩ ∧ EntryDefined ⟨0, 0xFF, 0xFF⟩ ∧ ¬ EntryDefined ⟨13, 7, 1⟩ ∧ ¬ EntryDefined ⟨12, 8, 1⟩
    ∧ ¬ EntryDefined ⟨12, 7, 2⟩ := by decide

/-- Zone 0 has an active job that waits and one queued job, both claims on template 0; nothing else is claimed. -/
def lawful : State :=
  let s := (installed 2).updZone 0 fun zn => { zn with active := some ((job 7).activate template), queue := [job 8] }
  { s with arbiter := { s.arbiter with waiting := [0] }, library := { s.library with usedCells := 3 } }

theorem witness_stepKeeps_capacity : CapacityLaw lawful ∧ TagLaw lawful := by
  refine ⟨⟨by decide, by decide⟩, ?_⟩
  intro z; revert z; decide

theorem waits_iff (zn : Zone) : zn.waits ↔ (zn.active.any fun a => a.play.isNone) = true := by
  cases h : zn.active <;> simp [Zone.waits, h]

theorem plays_iff (zn : Zone) : zn.plays ↔ (zn.active.any fun a => a.play.isSome) = true := by
  cases h : zn.active with
  | none => simp [Zone.plays, h]
  | some a => cases hp : a.play <;> simp [Zone.plays, h, hp]

theorem witness_stepKeeps_shared : WaitingLaw lawful ∧ LockLaw lawful ∧ PoolLaw lawful := by
  simp only [WaitingLaw, LockLaw, PoolLaw, waits_iff, plays_iff]
  decide

theorem witness_stepKeeps_cells : CellLaw lawful ∧ UseCountLaw lawful := by
  refine ⟨by unfold CellLaw; decide, ?_⟩
  intro i; revert i; decide

theorem witness_stepKeeps : InServiceLaw lawful ∧ CaptureLaw (capturing (session .capd .armed (.space none)))
    ∧ (∃ t, step lawful = .next t) ∧ ∃ t, step (capturing (session .capd .armed (.space none))) = .next t := by
  refine ⟨List.Pairwise.nil, ?_, ⟨_, rfl⟩, ⟨_, rfl⟩⟩
  intro c h; cases h; decide

end Sys2Proof.Tests
end

section
/-!
The books of the Code Library: used cells and use counts against the templates that jobs and bindings name (R6, R7).
One rule says when a change keeps them; every operation of the part then follows from it.
-/
namespace Sys2Proof.Machine

/-! ### What the zones and lines name -/

/-- The templates that a zone's live jobs name, one entry a job. -/
def Zone.named (zn : Zone) : List (Fin 64) := zn.jobs.map Job.template

/-- The template that a line's binding names. -/
def Line.named (l : Line) : List (Fin 64) := (l.binding.map Binding.template).toList

theorem Zone.named_eq (zn : Zone) :
    zn.named = (zn.active.map fun a => a.job.template).toList ++ zn.queue.map Job.template := by
  cases h : zn.active <;> simp [Zone.named, Zone.jobs, h]

/-! ### Sums over the zones, the lines and the slots -/

/-- Two families that agree but at `z` have sums that differ by their values there. -/
theorem sum_add_of_agree {n : Nat} (f g : Fin n → Nat) (z : Fin n) (h : ∀ y, y ≠ z → f y = g y) :
    ∑ y, f y + g z = ∑ y, g y + f z := by
  have rest : ∑ y ∈ Finset.univ.erase z, f y = ∑ y ∈ Finset.univ.erase z, g y :=
    Finset.sum_congr rfl fun y hy => h y (Finset.ne_of_mem_erase hy)
  rw [← Finset.add_sum_erase _ f (Finset.mem_univ z), ← Finset.add_sum_erase _ g (Finset.mem_univ z), rest]
  ring

/-- The number of claims on a template, as sums of what the zones and the lines name. -/
theorem State.claims_eq_sum (s : State) (i : Fin 64) :
    s.claims i = ∑ z, (s.zone z).named.count i + ∑ n, (s.line n).named.count i := by
  have hz (z : Fin 8) : ((s.zone z).jobs.filter fun j => decide (j.template = i)).length = (s.zone z).named.count i := by
    rw [Zone.named, List.count, List.countP_map, List.countP_eq_length_filter]; rfl
  have hl : (allLines.filter fun n => decide ((s.line n).binding.map Binding.template = some i)).length
      = ∑ n, (s.line n).named.count i := by
    have one (n : Fin 4) : (s.line n).named.count i
        = if (s.line n).binding.map Binding.template = some i then 1 else 0 := by
      cases h : (s.line n).binding <;> simp [Line.named, h, List.count_singleton]
    simp only [one, ← List.countP_eq_length_filter, allLines, List.countP_cons, List.countP_nil, Fin.sum_univ_four,
      decide_eq_true_eq]
    ring
  simp only [State.claims, hz, hl, allZones, Fin.sum_univ_eight]
  simp [Nat.add_assoc]

theorem sum_map_toList {α : Type} {n : Nat} (f : α → Nat) (v : Vector α n) :
    (v.toList.map f).sum = ∑ i : Fin n, f v[i] := by
  rw [← List.sum_ofFn]
  congr 1
  apply List.ext_getElem <;> simp

/-- The cells of all slots, as a sum over their numbers. -/
theorem State.sum_cells (s : State) :
    (s.library.slots.toList.map Slot.cells).sum = ∑ i, (s.slot i).cells := sum_map_toList ..

/-! ### The books -/

/-- What each slot holds. -/
def State.stock (s : State) (i : Fin 64) : Option Template := (s.slot i).template

/-- The laws of R6 and R7 hold, of slots that hold these templates. An operation that keeps `Books stock` changes no slot's
template and keeps both laws. -/
structure Books (stock : Fin 64 → Option Template) (s : State) : Prop where
  cells : CellLaw s
  uses : UseCountLaw s
  stock : s.stock = stock

theorem Books.template_eq {stock : Fin 64 → Option Template} {s : State} (h : Books stock s) (i : Fin 64) :
    (s.slot i).template = stock i := congrFun h.stock i

/-- The laws hold of what the slots hold now. -/
abbrev Balanced (s : State) : Prop := Books s.stock s

theorem Books.balanced {stock : Fin 64 → Option Template} {s : State} (h : Books stock s) : Balanced s :=
  ⟨h.cells, h.uses, rfl⟩

/-- Used cells and the templates of the slots stay: so does R6. -/
theorem CellLaw.of_stock {s t : State} (h : CellLaw s) (hstock : t.stock = s.stock)
    (hused : t.library.usedCells = s.library.usedCells) : CellLaw t := by
  have hcells (i : Fin 64) : (t.slot i).cells = (s.slot i).cells := by
    have hi : (t.slot i).template = (s.slot i).template := congrFun hstock i
    rw [Slot.cells, hi, Slot.cells]
  simpa [CellLaw, State.sum_cells, hused, hcells] using h

section
variable {stock : Fin 64 → Option Template}

/-- THE RULE. The claims of `back` are given back and those of `taken` are made, on installed templates, and the use counts
follow: the books still balance. -/
theorem Books.change {s t : State} (h : Books stock s) (back taken : List (Fin 64))
    (hslot : ∀ i, t.slot i = ⟨(s.slot i).template, (s.slot i).useCount - back.count i + taken.count i⟩)
    (hused : t.library.usedCells = s.library.usedCells)
    (hclaims : ∀ i, t.claims i + back.count i = s.claims i + taken.count i)
    (hback : ∀ i, back.count i ≤ s.claims i)
    (htaken : ∀ i ∈ taken, (s.slot i).template.isSome) : Books stock t := by
  have hstock : t.stock = s.stock := funext fun i => by simp [State.stock, hslot]
  refine ⟨h.cells.of_stock hstock hused, fun i => ?_, hstock.trans h.stock⟩
  obtain ⟨huse, hinst⟩ := h.uses i
  rw [hslot i]
  have hc := hclaims i
  have hb := hback i
  refine ⟨by simp only [huse]; omega, fun hpos => ?_⟩
  by_cases hi : i ∈ taken
  · exact htaken i hi
  · rw [List.count_eq_zero_of_not_mem hi] at hc
    exact hinst (by omega)

/-- Nothing that the books speak of changes. -/
theorem Books.same {s t : State} (h : Books stock s) (hslot : ∀ i, t.slot i = s.slot i)
    (hused : t.library.usedCells = s.library.usedCells) (hz : ∀ z, (t.zone z).named = (s.zone z).named)
    (hl : ∀ n, (t.line n).named = (s.line n).named) : Books stock t :=
  h.change [] [] (by simpa using hslot) hused (by simp [State.claims_eq_sum, hz, hl]) (by simp) (by simp)

/-- The zones, the lines and the library stay. -/
theorem Books.of_fields {s t : State} (h : Books stock s) (hlib : t.library = s.library) (hz : t.zones = s.zones)
    (hl : t.lines = s.lines) : Books stock t :=
  h.same (by simp [State.slot, hlib]) (by rw [hlib]) (by simp [State.zone, hz]) (by simp [State.line, hl])

/-- One zone's jobs change from what they were: `back` leave, `taken` come. -/
theorem Books.change_zone {s t : State} (h : Books stock s) (z : Fin 8) (back taken : List (Fin 64))
    (hslot : ∀ i, t.slot i = ⟨(s.slot i).template, (s.slot i).useCount - back.count i + taken.count i⟩)
    (hused : t.library.usedCells = s.library.usedCells)
    (hne : ∀ y, y ≠ z → (t.zone y).named = (s.zone y).named) (hl : ∀ n, t.line n = s.line n)
    (hnamed : ∀ i, (t.zone z).named.count i + back.count i = (s.zone z).named.count i + taken.count i)
    (hback : ∀ i, back.count i ≤ (s.zone z).named.count i)
    (htaken : ∀ i ∈ taken, (s.slot i).template.isSome) : Books stock t := by
  refine h.change back taken hslot hused (fun i => ?_) (fun i => ?_) htaken
  · have hsum := sum_add_of_agree (fun y => (t.zone y).named.count i) (fun y => (s.zone y).named.count i) z
      fun y hy => by simp only [hne y hy]
    have hi := hnamed i
    simp only [State.claims_eq_sum, hl]
    omega
  · have hle : (s.zone z).named.count i ≤ ∑ y, (s.zone y).named.count i :=
      Finset.single_le_sum (f := fun y => (s.zone y).named.count i) (fun _ _ => Nat.zero_le _) (Finset.mem_univ z)
    have hi := hback i
    simp only [State.claims_eq_sum]
    omega

/-- One line's binding changes: its old claim is given back, the new one made (R137). -/
theorem Books.change_line {s t : State} (h : Books stock s) (n : Fin 4) (back taken : List (Fin 64))
    (hslot : ∀ i, t.slot i = ⟨(s.slot i).template, (s.slot i).useCount - back.count i + taken.count i⟩)
    (hused : t.library.usedCells = s.library.usedCells) (hz : ∀ z, t.zone z = s.zone z)
    (hne : ∀ m, m ≠ n → t.line m = s.line m) (hold : (s.line n).named = back) (hnew : (t.line n).named = taken)
    (htaken : ∀ i ∈ taken, (s.slot i).template.isSome) : Books stock t := by
  refine h.change back taken hslot hused (fun i => ?_) (fun i => ?_) htaken
  · have hsum := sum_add_of_agree (fun m => (t.line m).named.count i) (fun m => (s.line m).named.count i) n
      fun m hm => by simp only [hne m hm]
    simp only [hold, hnew] at hsum
    simp only [State.claims_eq_sum, hz]
    omega
  · have hle : (s.line n).named.count i ≤ ∑ m, (s.line m).named.count i :=
      Finset.single_le_sum (f := fun m => (s.line m).named.count i) (fun _ _ => Nat.zero_le _) (Finset.mem_univ n)
    rw [hold] at hle
    simp only [State.claims_eq_sum]
    omega

/-- A zone is changed in what is no job. -/
theorem Books.updZone {s : State} (h : Books stock s) (z : Fin 8) (f : Zone → Zone)
    (hf : (f (s.zone z)).named = (s.zone z).named) :
    Books stock (s.updZone z f) := by
  refine h.same (by simp) rfl (fun y => ?_) (by simp)
  by_cases hy : y = z
  · subst hy; simpa using hf
  · simp [hy]

end

end Sys2Proof.Machine
end

section
/-! The operations of zones and jobs keep the books. -/
namespace Sys2Proof.Machine

variable {stock : Fin 64 → Option Template}

/-! ### Slots and used cells under the shared operations -/

@[simp] theorem State.addUse_usedCells (s : State) (i : Fin 64) :
    (s.addUse i).library.usedCells = s.library.usedCells := rfl
@[simp] theorem State.dropUse_usedCells (s : State) (i : Fin 64) :
    (s.dropUse i).library.usedCells = s.library.usedCells := rfl
@[simp] theorem State.dropUses_usedCells (s : State) (js : List Job) :
    (s.dropUses js).library.usedCells = s.library.usedCells := by
  rw [State.dropUses_eq]
@[simp] theorem State.slot_giveBack (s : State) (z : Fin 8) (b : Option (Fin 4)) (i : Fin 64) :
    (s.giveBack z b).slot i = s.slot i := by simp [State.slot]
@[simp] theorem State.line_giveBack (s : State) (z : Fin 8) (b : Option (Fin 4)) (n : Fin 4) :
    (s.giveBack z b).line n = s.line n := by simp [State.line]
@[simp] theorem State.zone_dropUses (s : State) (js : List Job) (z : Fin 8) : (s.dropUses js).zone z = s.zone z := by
  simp [State.zone]
@[simp] theorem State.line_dropUses (s : State) (js : List Job) (n : Fin 4) : (s.dropUses js).line n = s.line n := by
  simp [State.line]

/-- A use count after one claim is given back, in the words of `Books.change`. -/
theorem State.slot_dropUse_count (s : State) (i j : Fin 64) :
    (s.dropUse i).slot j = ⟨(s.slot j).template, (s.slot j).useCount - [i].count j⟩ := by
  simp [State.slot_dropUse, List.count_singleton, beq_iff_eq, eq_comm (a := i)]

/-- A use count after one claim is made, in the words of `Books.change`. -/
theorem State.slot_addUse_count (s : State) (i j : Fin 64) :
    (s.addUse i).slot j = ⟨(s.slot j).template, (s.slot j).useCount + [i].count j⟩ := by
  simp [State.slot_addUse, List.count_singleton, beq_iff_eq, eq_comm (a := i)]

/-- Use counts after the claims of several jobs are given back, in the words of `Books.change`. -/
theorem State.slot_dropUses_count (s : State) (js : List Job) (i : Fin 64) :
    (s.dropUses js).slot i = ⟨(s.slot i).template, (s.slot i).useCount - (js.map Job.template).count i⟩ := by
  rw [State.slot_dropUses, List.count, List.countP_map, List.countP_eq_length_filter]; rfl

/-! ### What a zone names after its jobs change -/

theorem Zone.named_idle {zn : Zone} (h : zn.active = none) : zn.named = zn.queue.map Job.template := by
  simp [Zone.named_eq, h]

theorem Zone.named_busy {zn : Zone} {a : ActiveJob} (h : zn.active = some a) :
    zn.named = a.job.template :: zn.queue.map Job.template := by
  simp [Zone.named_eq, h]

theorem Zone.active_of_mayActivate {zn : Zone} (h : zn.mayActivate = true) : zn.active = none := by
  simp only [Zone.mayActivate, Bool.and_eq_true, Option.isNone_iff_eq_none] at h
  exact h.1.1.1.1.2

/-! ### The end of a job, activation, submission -/

theorem Books.endJob {s : State} (h : Books stock s) (z : Fin 8) (o : JobOutcome) (time : Word) :
    Books stock (s.endJob z o time) := by
  cases ha : (s.zone z).active with
  | none => simpa [State.endJob, ha] using h
  | some a =>
    simp only [State.endJob, ha]
    refine h.change_zone z [a.job.template] [] (by simp [State.slot_dropUse_count]) (by simp)
      (fun y hy => by simp [hy]) (by simp) (fun i => ?_) (fun i => ?_) (by simp)
    · simp [Zone.named_idle, Zone.named_busy ha, List.count_cons]
    · simp [Zone.named_busy ha, List.count_cons]

theorem Books.endIncompatible {s : State} (h : Books stock s) (z : Fin 8) {j : Job} {rest : List Job}
    (hq : (s.zone z).queue = j :: rest) : Books stock (s.endIncompatible z j rest) := by
  refine h.change_zone z [j.template] [] (by simp [State.endIncompatible, State.slot_dropUse_count])
    (by simp [State.endIncompatible])
    (fun y hy => by simp [hy]) (by simp [State.endIncompatible]) (fun i => ?_) (fun i => ?_) (by simp)
  · simp [State.endIncompatible, Zone.named_eq, hq, List.count_cons]; omega
  · simp [Zone.named_eq, hq, List.count_cons]; omega

/-- The head job goes from the queue to the active job: the zone names what it named. -/
theorem Books.beginWaiting {s : State} (h : Books stock s) (z : Fin 8) {j : Job} {rest : List Job}
    (hq : (s.zone z).queue = j :: rest) (ha : (s.zone z).active = none) : Books stock (s.beginWaiting z j rest) := by
  have k : Books stock (s.updZone z fun zn =>
      { zn.flip j.template (s.template j.template).toggled with
        queue := rest, active := some (j.activate (s.template j.template)) }) :=
    h.updZone z _ (by simp [Zone.named_eq, hq, ha, Job.activate])
  exact k.of_fields rfl rfl rfl

theorem Books.activateHead {s : State} (h : Books stock s) (z : Fin 8) (ha : (s.zone z).active = none) :
    Books stock (s.activateHead z) := by
  unfold State.activateHead
  split
  · exact h
  · next hq =>
    split
    · exact h.beginWaiting z hq ha
    · exact h.endIncompatible z hq

theorem Books.activations {s : State} (h : Books stock s) (n : Nat) (z : Fin 8) :
    Books stock (State.activations n z s) := by
  induction n generalizing s with
  | zero => exact h
  | succ n ih =>
    unfold State.activations
    split
    · next hm => exact ih (h.activateHead z (Zone.active_of_mayActivate hm))
    · exact h

theorem Books.considerActivation {s : State} (h : Books stock s) (z : Fin 8) : Books stock (s.considerActivation z) :=
  h.activations _ z

/-- An accepted job names an INSTALLED template (R33 check 4). -/
theorem State.template_of_judge {s : State} {z : Fin 8} {i : Fin 64} {n : Nat} {tag : Half}
    (h : s.judge z i n tag = none) : (s.slot i).template.isSome := by
  unfold State.judge at h
  split at h
  · cases h
  split at h
  · cases h
  split at h
  · cases h
  · next ht => simp [ht]

theorem Books.enqueue {s : State} (h : Books stock s) (z : Fin 8) {j : Job} (hj : (s.slot j.template).template.isSome) :
    Books stock (s.enqueue z j) := by
  refine Books.considerActivation (h.change_zone z [] [j.template] (by simp [State.slot_addUse_count]) (by simp)
    (fun y hy => by simp [hy]) (by simp) (fun i => ?_) (by simp) (by simpa using hj)) z
  simp [Zone.named_eq]; omega

theorem Books.takeHead {s : State} (h : Books stock s) (z : Fin 8) : Books stock (s.takeHead z) :=
  (h.updZone z _ (by simp [Zone.named_eq])).considerActivation z

/-! ### Changes of a zone that are no change of its jobs' templates -/

theorem Books.updActive {s : State} (h : Books stock s) (z : Fin 8) (f : ActiveJob → ActiveJob)
    (hf : ∀ a, (f a).job.template = a.job.template) : Books stock (s.updActive z f) :=
  h.updZone z _ (by cases ha : (s.zone z).active <;> simp [Zone.named_eq, ha, hf])

theorem Books.setPlay {s : State} (h : Books stock s) (z : Fin 8) (p : PlayState) : Books stock (s.setPlay z p) :=
  h.updActive z _ fun _ => rfl

theorem Books.startFrame {s : State} (h : Books stock s) (z : Fin 8) : Books stock (s.startFrame z) := by
  unfold State.startFrame
  split
  · exact h
  · next ha => exact h.updZone z _ (by simp [Zone.named_eq, ha])

theorem Zone.emit_named (zn : Zone) (now stop : Nat) : (zn.emit now stop).named = zn.named := by
  unfold Zone.emit; split <;> rfl

theorem Books.openGate {s : State} (h : Books stock s) (z : Fin 8) : Books stock (s.openGate z) := by
  unfold State.openGate
  split
  · exact h
  split
  · exact h
  split
  · exact h.updZone z _ (Zone.emit_named ..)
  · exact h

theorem Books.closeGate {s : State} (h : Books stock s) (z : Fin 8) : Books stock (s.closeGate z) := h.updZone z _ rfl

theorem Books.cutOutput {s : State} (h : Books stock s) (z : Fin 8) : Books stock (s.cutOutput z) := h.updZone z _ rfl

theorem Books.gateMoved {s : State} (h : Books stock s) (z : Fin 8) (wasOpen : Bool) :
    Books stock (s.gateMoved z wasOpen) := by
  unfold State.gateMoved
  split
  · exact h
  split
  · exact h.closeGate z
  · exact h.openGate z

theorem Zone.faulted_named (zn : Zone) (k : FaultKind) : (zn.faulted k).named = zn.named := by cases k <;> rfl

/-! ### Playback, driver faults -/

theorem Books.advance {s : State} (h : Books stock s) (instant : Nat) :
    Books stock (s.advance instant) := h.of_fields rfl rfl rfl

theorem Books.driverFault {s : State} (h : Books stock s) (z : Fin 8) (k : FaultKind) :
    Books stock (s.driverFault z k) := by
  have ended := (h.cutOutput z).endJob z .fault s.timeBase
  exact (ended.updZone z (fun zn => zn.faulted k) (Zone.faulted_named ..)).of_fields rfl rfl rfl

theorem Books.sense {s : State} (h : Books stock s) (z : Fin 8) : Books stock (s.sense z) := by
  unfold State.sense
  split
  · split
    · exact h.driverFault z _
    · exact h
  · exact h

theorem Books.decideAgain {s : State} (h : Books stock s) (z : Fin 8) : Books stock (s.decideAgain z) := by
  unfold State.decideAgain
  split
  · exact h
  split
  · exact h
  split
  · exact h
  split
  · exact h
  · exact (h.endJob z _ _).considerActivation z

theorem Books.frameEnd {s : State} (h : Books stock s) (z : Fin 8) (a : ActiveJob) (p : PlayState) :
    Books stock (s.frameEnd z a p) := by
  unfold State.frameEnd
  split
  · exact (h.endJob z _ _).considerActivation z
  · dsimp only
    split
    · exact (h.setPlay z _).startFrame z
    split
    · exact (h.setPlay z _).startFrame z
    · exact h.setPlay z _

theorem Books.phaseOver {s : State} (h : Books stock s) (z : Fin 8) (a : ActiveJob) (p : PlayState) :
    Books stock (s.phaseOver z a p) := by
  unfold State.phaseOver
  split
  · exact h.setPlay z _
  · exact h.frameEnd z a p

theorem Books.phaseEnd {s : State} (h : Books stock s) (z : Fin 8) : Books stock (phaseEnd z s) := by
  unfold Machine.phaseEnd
  split
  · exact h
  split
  · exact h
  split
  · exact h
  · exact (((h.advance _).phaseOver z _ _).gateMoved z _).sense z

theorem Books.frameTimerExpiry {s : State} (h : Books stock s) (z : Fin 8) : Books stock (frameTimerExpiry z s) := by
  unfold Machine.frameTimerExpiry
  split
  · exact h
  split
  · exact h
  split
  · exact (((h.advance _).startFrame z).gateMoved z _).sense z
  · exact h

theorem Books.driverReport {s : State} (h : Books stock s) (z : Fin 8) (report : Condition) :
    Books stock (driverReport z report s) := by
  have k : Books stock { s with pins := { s.pins with zsense := s.pins.zsense.set z report } } := h.of_fields rfl rfl rfl
  unfold Machine.driverReport
  dsimp only
  split
  · exact k
  · exact k.sense z

/-! ### The grant walk -/

theorem Books.grant {s : State} (h : Books stock s) (z : Fin 8) (binding : Option (Fin 4)) :
    Books stock (s.grant z binding) := by
  have k : Books stock { s with arbiter := s.arbiter.grant z (s.zone z).config.group } := h.of_fields rfl rfl rfl
  exact ((k.updActive z (fun a => { a with binding := binding }) fun _ => rfl).startFrame z).gateMoved z false

theorem Books.obtain {s : State} (h : Books stock s) (g : Fin 4) (c : Setting) (z : Fin 8) :
    Books stock (s.obtain g c z) :=
  h.of_fields rfl rfl rfl

theorem Books.nextSlot {s : State} (h : Books stock s) : Books stock s.nextSlot := h.of_fields rfl rfl rfl

theorem Books.visit {s : State} (h : Books stock s) (z : Fin 8) : Books stock (s.visit z) := by
  unfold State.visit
  split
  · exact h
  split
  · split
    · exact h.grant z none
    split
    · exact h
    · exact (h.obtain _ _ z).grant z _
  · exact h

theorem Books.walk {s : State} (h : Books stock s) (order : List (Fin 8)) : Books stock (s.walk order) := by
  induction order generalizing s with
  | nil => exact h
  | cons z _ ih => exact ih (h.visit z)

theorem Books.senseAll {s : State} (h : Books stock s) (order : List (Fin 8)) : Books stock (s.senseAll order) := by
  induction order generalizing s with
  | nil => exact h
  | cons z _ ih => exact ih (h.sense z)

theorem Books.slotBoundary {s : State} (h : Books stock s) : Books stock (slotBoundary s) := by
  unfold Machine.slotBoundary
  split
  · exact h
  · exact (h.nextSlot.walk _).senseAll _

/-! ### The halves of a generator -/

theorem Zone.highBegins_named (g : Fin 4) (now stop : Nat) (zn : Zone) : (zn.highBegins g now stop).named = zn.named := by
  unfold Zone.highBegins; split
  · exact Zone.emit_named ..
  · rfl

theorem Zone.highEnds_named (g : Fin 4) (now : Nat) (zn : Zone) : (zn.highEnds g now).named = zn.named := by
  unfold Zone.highEnds; split <;> rfl

/-- The zones are mapped by what changes no job. -/
theorem Books.mapZones {s t : State} (h : Books stock s) (f : Zone → Zone) (hf : ∀ zn, (f zn).named = zn.named)
    (hlib : t.library = s.library) (hz : t.zones = mapVector f s.zones) (hl : t.lines = s.lines) : Books stock t :=
  h.same (by simp [State.slot, hlib]) (by rw [hlib]) (by simp [State.zone, hz, hf]) (by simp [State.line, hl])

theorem Books.highHalfStart {s : State} (h : Books stock s) (g : Fin 4) : Books stock (highHalfStart g s) := by
  unfold Machine.highHalfStart
  split
  · split
    · exact h
    · exact h.mapZones _ (Zone.highBegins_named g _ _) rfl rfl rfl
  · exact h

theorem Books.highHalfEnd {s : State} (h : Books stock s) (owner : HalfOwner) : Books stock (highHalfEnd owner s) := by
  cases owner with
  | generator g =>
    simp only [Machine.highHalfEnd]
    split
    · split
      · exact h.mapZones _ (Zone.highEnds_named g _) rfl rfl rfl
      · exact h
    · exact h
  | driver z =>
    simp only [Machine.highHalfEnd]
    split
    · exact (h.advance _).cutOutput z
    · exact h

end Sys2Proof.Machine
end

section
/-! The requests and the events keep the books, and so does every step. -/
namespace Sys2Proof.Machine

section
variable {stock : Fin 64 → Option Template}

/-! ### Release, cancel and flush -/

theorem Books.releaseActive {s : State} (h : Books stock s) (z : Fin 8) : Books stock (s.releaseActive z) :=
  Books.decideAgain (h.updActive z (fun a => { a with job := { a.job with released := true } }) fun _ => rfl) z

theorem Books.releaseQueued {s : State} (h : Books stock s) (z : Fin 8) (tag : Half) :
    Books stock (s.releaseQueued z tag) := by
  refine h.updZone z _ ?_
  have same (j : Job) : (if j.tag = tag then { j with released := true } else j).template = j.template := by
    split <;> rfl
  simp [Zone.named_eq, Function.comp_def, same]

/-- A refusal leaves the books as they are. -/
theorem Books.releaseAgain {s : State} (h : Books stock s) (z : Fin 8) (tag : Half) :
    Books stock (s.releaseAgain z tag).state := by
  unfold State.releaseAgain State.releaseLate
  repeat' split
  all_goals exact h

theorem Books.release {s : State} (h : Books stock s) (z : Fin 8) (tag : Half) :
    Books stock (s.release z tag).state := by
  unfold State.release
  split
  · exact h
  split
  · exact h.releaseActive z
  split
  · exact h.releaseQueued z tag
  · exact h.releaseAgain z tag

theorem Books.cancelNow {s : State} (h : Books stock s) (z : Fin 8) : Books stock (s.cancelNow z) :=
  ((h.endJob z _ _).gateMoved z _).considerActivation z

theorem Books.cancelLater {s : State} (h : Books stock s) (z : Fin 8) : Books stock (s.cancelLater z) :=
  h.updActive z _ fun _ => rfl

/-- The first job of a tag leaves the queue: what the rest names is what is named without it. -/
theorem count_eraseP_find {queue : List Job} {tag : Half} {j : Job} (h : queue.find? (fun q => q.tag = tag) = some j)
    (i : Fin 64) : ((queue.eraseP fun q => q.tag = j.tag).map Job.template).count i + [j.template].count i
      = (queue.map Job.template).count i := by
  obtain ⟨hj, before, behind, rfl, hbefore⟩ := List.find?_eq_some_iff_append.mp h
  have htag : j.tag = tag := by simpa using hj
  rw [htag, eraseP_split _ before j behind (by simpa using hbefore) hj]
  simp [List.count_cons, Nat.add_assoc]

theorem Books.dropQueued {s : State} (h : Books stock s) (z : Fin 8) {tag : Half} {j : Job}
    (hj : (s.zone z).queuedWith tag = some j) : Books stock (s.dropQueued z j) := by
  have hcount := count_eraseP_find hj
  refine h.change_zone z [j.template] [] (by simp [State.dropQueued, State.slot_dropUse_count]) (by simp [State.dropQueued])
    (fun y hy => by simp [State.dropQueued, hy]) (by simp [State.dropQueued]) (fun i => ?_) (fun i => ?_) (by simp)
  · simp [State.dropQueued, Zone.named_eq, ← hcount i, Nat.add_assoc]
  · simp [Zone.named_eq, ← hcount i]; omega

theorem Books.cancelActive {s : State} (h : Books stock s) (z : Fin 8) (a : ActiveJob) (mode : CancelMode) :
    Books stock (s.cancelActive z a mode).state := by
  unfold State.cancelActive
  split
  · split
    · exact h
    · exact h.cancelLater z
  · exact h.cancelNow z

theorem Books.jobCancel {s : State} (h : Books stock s) (zone : Byte) (tag : Half) (mode : Byte) :
    Books stock (jobCancel zone tag mode s).state := by
  unfold Machine.jobCancel
  split
  · split
    · exact h
    split
    · next hj => exact h.dropQueued _ hj
    · exact h.cancelActive ..
    · exact h
  · exact h

theorem Books.dropQueue {s : State} (h : Books stock s) (z : Fin 8) : Books stock (s.dropQueue z) := by
  refine h.change_zone z ((s.zone z).queue.map Job.template) [] (by simp [State.dropQueue, State.slot_dropUses_count])
    (by simp [State.dropQueue]) (fun y hy => by simp [State.dropQueue, hy]) (by simp [State.dropQueue])
    (fun i => ?_) (fun i => ?_) (by simp)
  · simp [State.dropQueue, Zone.named_eq]
  · simp [Zone.named_eq]

theorem Books.flushActive {s : State} (h : Books stock s) (z : Fin 8) (action : Option CancelMode) :
    Books stock (s.flushActive z action).1 := by
  unfold State.flushActive
  split
  · exact h
  split
  · exact h
  split
  · exact h.cancelLater z
  · exact h.cancelNow z

theorem Books.zoneFlush {s : State} (h : Books stock s) (zone action : Byte) :
    Books stock (zoneFlush zone action s).state := by
  unfold Machine.zoneFlush
  split
  · split
    · exact h
    · exact (h.dropQueue _).flushActive _ _
  · exact h

/-! ### FAULT CLEAR, ZONE RESET and the quiet time -/

theorem Books.faultClear {s : State} (h : Books stock s) (zone : Byte) : Books stock (faultClear zone s).state := by
  unfold Machine.faultClear
  split
  · exact h
  split
  · exact h
  split
  · exact h
  · exact (h.updZone _ (fun zn => { zn with condition := .normal }) rfl).considerActivation _

/-- The claim of a zone's active job is given back. -/
theorem State.slot_discardActive (s : State) (z : Fin 8) (i : Fin 64) :
    (s.discardActive z).slot i = ⟨(s.slot i).template,
      (s.slot i).useCount - ((s.zone z).active.map fun a => a.job.template).toList.count i⟩ := by
  cases ha : (s.zone z).active <;> simp [State.discardActive, ha, State.slot_dropUse_count]

@[simp] theorem State.discardActive_usedCells (s : State) (z : Fin 8) :
    (s.discardActive z).library.usedCells = s.library.usedCells := by
  cases ha : (s.zone z).active <;> simp [State.discardActive, ha]

@[simp] theorem Zone.named_cleared (zn : Zone) (quietEnd : Nat) : (zn.cleared quietEnd).named = [] := rfl

theorem Books.resetZone {s : State} (h : Books stock s) (z : Fin 8) : Books stock (s.resetZone z) := by
  have hzone (y : Fin 8) : (s.discardActive z).zone y = s.zone y := by simp [State.zone]
  have hline (n : Fin 4) : (s.discardActive z).line n = s.line n := by simp [State.line]
  refine h.change_zone z (s.zone z).named [] (fun i => ?_) (by simp [State.resetZone])
    (fun y hy => by simp [State.resetZone, hy, hzone]) (by simp [State.resetZone, hline]) (fun i => ?_) (by simp) (by simp)
  · simp [State.resetZone, State.slot_dropUses_count, State.slot_discardActive, Zone.named_eq, Nat.sub_sub]
  · simp [State.resetZone]

theorem Books.zoneReset {s : State} (h : Books stock s) (zone : Byte) : Books stock (zoneReset zone s).state := by
  unfold Machine.zoneReset
  split
  · exact h
  split
  · exact h
  · exact h.resetZone _

theorem Books.quietTimeExpiry {s : State} (h : Books stock s) (z : Fin 8) : Books stock (quietTimeExpiry z s) := by
  unfold Machine.quietTimeExpiry
  split
  · exact h
  · exact (h.advance _).updZone z (fun zn => { zn with quietEnd := none }) rfl

/-! ### Trigger lines -/

theorem Books.updLine {s : State} (h : Books stock s) (n : Fin 4) (f : Line → Line)
    (hf : (f (s.line n)).binding = (s.line n).binding) : Books stock (s.updLine n f) := by
  refine h.same (by simp) rfl (by simp) (fun m => ?_)
  by_cases hm : m = n
  · subst hm; simp [State.updLine, Line.named, hf]
  · simp [State.updLine, hm]

theorem Books.lineTo {s : State} (h : Books stock s) (n : Fin 4) (state : LineState) : Books stock (s.lineTo n state) :=
  h.updLine n _ rfl

theorem Books.lineSubmit {s : State} (h : Books stock s) (b : Binding) (n : Fin 4) (mode : JobMode) :
    Books stock (s.lineSubmit b n mode) := by
  unfold State.lineSubmit
  split
  · exact h.of_fields rfl rfl rfl
  · next hj => exact h.enqueue _ (State.template_of_judge hj)

theorem Books.retrigger {s : State} (h : Books stock s) (b : Binding) (n : Fin 4) (repeats : Nat) :
    Books stock (s.retrigger b n repeats) := by
  unfold State.retrigger
  split
  · split
    · exact Books.decideAgain
        (h.updActive _ (fun a => { a with framesTarget := retriggerTarget a.framesStarted repeats }) fun _ => rfl) _
    · exact h
  split
  · exact h
  · exact h.lineSubmit b n _

theorem Books.rising {s : State} (h : Books stock s) (b : Binding) (n : Fin 4) : Books stock (s.rising b n) := by
  unfold State.rising
  split
  · exact (h.lineSubmit b n _).lineTo n _
  · exact (h.retrigger b n _).lineTo n _
  · exact (h.lineSubmit b n _).lineTo n _

theorem Books.lineRelease {s : State} (h : Books stock s) (b : Binding) : Books stock (s.lineRelease b) := h.release _ _

theorem Books.falling {s : State} (h : Books stock s) (b : Binding) (n : Fin 4) : Books stock (s.falling b n) := by
  unfold State.falling
  split
  · exact (h.lineRelease b).lineTo n _
  · exact h.lineTo n _
  · exact h.lineTo n _
  · exact h

theorem Books.takeLevel {s : State} (h : Books stock s) (n : Fin 4) (level : Bool) :
    Books stock (s.takeLevel n level) := by
  have k : Books stock (s.updLine n fun l => { l with taken := level, debounceEnd := none }) := h.updLine n _ rfl
  unfold State.takeLevel
  dsimp only
  split
  · exact k
  split
  · split
    · exact k.rising _ n
    · exact k
  · exact k.falling _ n

theorem Books.pinMoved {s : State} (h : Books stock s) (n : Fin 4) (level : Bool) :
    Books stock (s.pinMoved n level) := by
  unfold State.pinMoved
  split
  · exact h.updLine n _ rfl
  split
  · exact h
  split
  · exact h.takeLevel n level
  · exact h.updLine n _ rfl

theorem Books.trigPinChange {s : State} (h : Books stock s) (n : Fin 4) (level : Bool) :
    Books stock (trigPinChange n level s) := by
  have k : Books stock { s with pins := { s.pins with trig := s.pins.trig.set n level } } := h.of_fields rfl rfl rfl
  unfold Machine.trigPinChange
  dsimp only
  split
  · exact k
  · exact k.pinMoved n level

theorem Books.debounceExpiry {s : State} (h : Books stock s) (n : Fin 4) : Books stock (debounceExpiry n s) := by
  unfold Machine.debounceExpiry
  split
  · exact h
  split
  · exact (h.advance _).updLine n _ rfl
  · exact (h.advance _).takeLevel n _

theorem Books.unhold {s : State} (h : Books stock s) (n : Fin 4) : Books stock (s.unhold n) := by
  unfold State.unhold
  split
  · split
    · exact h.lineRelease _
    · exact h
  · exact h

/-- Steps 2 to 5 of R137: what a bind makes of a use count. -/
theorem State.slot_bind (s : State) (n : Fin 4) (new : Option Binding) (i : Fin 64) :
    (s.bind n new).slot i = ⟨(s.slot i).template, (s.slot i).useCount - (s.line n).named.count i
      + (new.map Binding.template).toList.count i⟩ := by
  cases hb : (s.line n).binding <;> cases new <;>
    simp [State.bind, hb, Line.named, State.slot_dropUse_count, State.slot_addUse_count]

/-- What a bind leaves and what it sets, apart from the use counts. -/
theorem State.bind_fields (s : State) (n : Fin 4) (new : Option Binding) :
    (s.bind n new).library.usedCells = s.library.usedCells ∧ (s.bind n new).zones = s.zones
      ∧ ((s.bind n new).line n).binding = new ∧ ∀ m, m ≠ n → (s.bind n new).line m = s.line m := by
  cases hb : (s.line n).binding <;> cases new <;> simp +contextual [State.bind, hb]

theorem Books.bind {s : State} (h : Books stock s) (n : Fin 4) (new : Option Binding)
    (hnew : ∀ b, new = some b → (s.slot b.template).template.isSome) : Books stock (s.bind n new) := by
  obtain ⟨hused, hzones, hline, hne⟩ := s.bind_fields n new
  refine h.change_line n (s.line n).named (new.map Binding.template).toList (s.slot_bind n new) hused
    (by simp [State.zone, hzones]) hne rfl (by simp [Line.named, hline]) fun i hi => ?_
  simp only [Option.mem_toList, Option.map_eq_some_iff] at hi
  obtain ⟨b, hb, rfl⟩ := hi
  exact hnew b hb

/-- A line's new binding names an INSTALLED template (R137 check 3), and the release of its old tag changes none. -/
theorem Books.rebind {s : State} (h : Books stock s) (n : Fin 4) (new : Option Binding)
    (hnew : ∀ b, new = some b → (s.slot b.template).template.isSome) : Books stock (s.rebind n new).state := by
  have k := h.unhold n
  refine k.bind n new fun b hb => ?_
  rw [k.template_eq, ← h.template_eq]
  exact hnew b hb

theorem Books.triggerBind {s : State} (h : Books stock s) (line : Byte) (record : Option BindingRecord) :
    Books stock (triggerBind line record s).state := by
  unfold Machine.triggerBind
  split
  · exact h
  · split
    · exact h
    · exact h.rebind _ none (by simp)
  split
  · exact h
  split
  · exact h
  split
  · exact h
  · next ht _ => exact h.rebind _ _ fun b hb => by cases hb; simp [ht]

/-! ### Zones' requests -/

theorem Books.zoneSetup {s : State} (h : Books stock s) (zone enabled bands group dark : Byte) :
    Books stock (zoneSetup zone enabled bands group dark s).state := by
  unfold Machine.zoneSetup
  split
  · dsimp only
    split
    · exact h
    · exact h.updZone _ (fun zn => { zn with config := _ }) rfl
  · exact h

theorem Books.zoneQuery {s : State} (h : Books stock s) (zone : Byte) : Books stock (zoneQuery zone s).state := by
  unfold Machine.zoneQuery
  split
  · exact h
  · exact h.updZone _ (fun zn => { zn with openSeen := false, overloadSeen := false }) rfl

theorem Books.jobSubmit {s : State} (h : Books stock s) (r : JobSubmitRecord) : Books stock (jobSubmit r s).state := by
  unfold Machine.jobSubmit
  split
  · split
    · exact h
    split
    · exact h
    · next hj => exact h.enqueue _ (State.template_of_judge hj)
  · exact h

theorem Books.jobRelease {s : State} (h : Books stock s) (zone : Byte) (tag : Half) :
    Books stock (jobRelease zone tag s).state := by
  unfold Machine.jobRelease
  split
  · exact h
  · exact h.release _ tag

theorem Books.completionTake {s : State} (h : Books stock s) (zone : Byte) :
    Books stock (completionTake zone s).state := by
  unfold Machine.completionTake
  split
  · exact h
  split
  · exact h
  · exact h.takeHead _

/-! ### Notices: a delivery takes a zone's completion record, which may let its next job activate -/

theorem Books.fetch {s : State} (h : Books stock s) (n : Source) (claimed : Bool) :
    Books stock (s.fetch n claimed).state := by
  unfold State.fetch
  split
  · exact h
  · have k : Books stock (s.deliver n) := by
      cases n with
      | zone z => exact h.takeHead z
      | engine | fault | link | capture | trigger => exact h.of_fields rfl rfl rfl
    exact k.of_fields rfl rfl rfl

theorem Books.noticeFetch {s : State} (h : Books stock s) (source : Option Byte) :
    Books stock (noticeFetch source s).state := by
  unfold Machine.noticeFetch
  split
  · split
    · exact h
    · exact h.fetch _ true
  split
  · exact h
  split
  · exact h.fetch _ _
  · exact h

/-! ### The library's requests -/

theorem Books.setStaging {s : State} (h : Books stock s) (staging : Option Staging) :
    Books stock (s.setStaging staging) :=
  h.same (by simp) rfl (by simp) (by simp)

/-- Without a use no job and no binding names the template. -/
theorem Books.claims_eq_zero {s : State} (h : Books stock s) {i : Fin 64} (huse : (s.slot i).useCount = 0) :
    s.claims i = 0 := (h.uses i).1.symm.trans huse

theorem State.cellsAt_eq (s : State) (i : Fin 64) : s.cellsAt i = (s.slot i).cells := rfl

/-- A slot that no claim names is filled anew or emptied, and used cells follow (R15, R17). -/
theorem Books.restock {s t : State} (h : Books stock s) (i : Fin 64) (new : Option Template)
    (hslot : ∀ j, t.slot j = if j = i then ⟨new, 0⟩ else s.slot j) (huse : (s.slot i).useCount = 0)
    (hused : t.library.usedCells + s.cellsAt i = s.library.usedCells + new.elim 0 Template.cells)
    (hroom : t.library.usedCells ≤ Config.poolCells)
    (hz : ∀ z, (t.zone z).named = (s.zone z).named) (hl : ∀ n, t.line n = s.line n) : Balanced t := by
  have hclaims (j : Fin 64) : t.claims j = s.claims j := by simp [State.claims_eq_sum, hz, hl]
  have hzero := h.claims_eq_zero huse
  refine ⟨⟨?_, hroom⟩, fun j => ?_, rfl⟩
  · have hcells := h.cells.1
    have hsum := sum_add_of_agree (fun j => (t.slot j).cells) (fun j => (s.slot j).cells) i
      fun j hj => by simp only [hslot, hj, if_false]
    have hnew : (t.slot i).cells = new.elim 0 Template.cells := by simp [hslot, Slot.cells]
    rw [State.sum_cells] at hcells ⊢
    rw [State.cellsAt_eq] at hused
    simp only [hnew] at hsum
    omega
  · rw [hclaims, hslot]
    by_cases hj : j = i
    · subst hj; simp [hzero]
    · simpa [hj] using h.uses j

/-- Clearing toggle bits changes no job. -/
theorem Zone.named_clearToggles (s : State) (i : Fin 64) (z : Fin 8) :
    ((s.clearToggles i).zone z).named = (s.zone z).named := by
  simp only [State.clearToggles, State.zone, Fin.getElem_fin, mapVector_getElem]; rfl

theorem Books.cellsAt_le {s : State} (h : Books stock s) (i : Fin 64) : s.cellsAt i ≤ s.library.usedCells := by
  rw [h.cells.1, State.sum_cells]
  exact Finset.single_le_sum (f := fun j => (s.slot j).cells) (fun _ _ => Nat.zero_le _) (Finset.mem_univ i)

theorem State.slot_install (s : State) (i j : Fin 64) (t : Template) :
    (s.install i t).slot j = if j = i then ⟨some t, (s.slot i).useCount⟩ else s.slot j :=
  State.slot_setSlot s i j _

theorem State.slot_remove (s : State) (i j : Fin 64) :
    (s.remove i).slot j = if j = i then ⟨none, (s.slot i).useCount⟩ else s.slot j :=
  State.slot_setSlot s i j _

theorem Books.templateCommit {s : State} (h : Books stock s) : Balanced (templateCommit s).state := by
  unfold Machine.templateCommit
  split
  · exact h.balanced
  split
  · exact h.balanced
  split
  · exact h.balanced
  split
  · exact h.balanced
  · next st _ _ _ huse hroom =>
    have huse : (s.slot st.target).useCount = 0 := not_not.mp huse
    have hle := h.cellsAt_le st.target
    have hpool : s.library.usedCells ≤ Config.poolCells := h.cells.2
    have hused : (s.install st.target st.template).library.usedCells
      = s.library.usedCells + st.template.cells - s.cellsAt st.target := rfl
    simp only [Library.freeCells] at hroom
    refine h.restock st.target (some st.template) (fun j => ?_) huse ?_ ?_ (Zone.named_clearToggles _ _) fun _ => rfl
    · rw [← huse]; exact State.slot_install ..
    · simp only [accept, hused, Option.elim_some]; omega
    · simp only [accept, hused]; omega

theorem Books.templateDelete {s : State} (h : Books stock s) (index : Byte) : Balanced (templateDelete index s).state := by
  unfold Machine.templateDelete
  split
  · exact h.balanced
  split
  · exact h.balanced
  split
  · exact h.balanced
  · next i _ _ huse =>
    have huse : (s.slot i).useCount = 0 := not_not.mp huse
    have hle := h.cellsAt_le i
    have hpool : s.library.usedCells ≤ Config.poolCells := h.cells.2
    have hused : (s.remove i).library.usedCells = s.library.usedCells - s.cellsAt i := rfl
    refine h.restock i none (fun j => ?_) huse ?_ ?_ (Zone.named_clearToggles _ _) fun _ => rfl
    · rw [← huse]; exact State.slot_remove ..
    · simp only [accept, hused, Option.elim_none]; omega
    · simp only [accept, hused]; omega

theorem Books.templateBegin {s : State} (h : Books stock s) (index : Byte) (header : TemplateHeader) :
    Books stock (templateBegin index header s).state := by
  unfold Machine.templateBegin
  split
  · exact h
  split
  · exact h.setStaging _
  · exact h

theorem Books.templateAppend {s : State} (h : Books stock s) (selector : Byte) (records : List ElementRecord) :
    Books stock (templateAppend selector records s).state := by
  unfold Machine.templateAppend
  split
  · exact h
  split
  · split
    · exact h.setStaging _
    · exact h
  · exact h

theorem Books.templateAbandon {s : State} (h : Books stock s) : Books stock (templateAbandon s).state := by
  unfold Machine.templateAbandon
  split
  · exact h.setStaging _
  · exact h

/-! ### Every request -/

/-! What the requests that only report leave: the whole state. -/

theorem templateQuery_state (index offset : Byte) (s : State) : (templateQuery index offset s).state = s := by
  unfold templateQuery; repeat' split
  all_goals rfl

theorem slotQuery_state (selector : Byte) (s : State) : (slotQuery selector s).state = s := by
  unfold slotQuery; split <;> rfl

theorem triggerQuery_state (line : Byte) (s : State) : (triggerQuery line s).state = s := by
  unfold triggerQuery; split <;> rfl

theorem captureRead_state (offset : Half) (count : Byte) (s : State) : (captureRead offset count s).state = s := by
  unfold captureRead; repeat' split
  all_goals rfl

/-! The requests that change another block alone. -/

theorem Books.slotPlan {s : State} (h : Books stock s) (length : Half) (masks : Vector Half 8) :
    Books stock (slotPlan length masks s).state := by
  unfold Machine.slotPlan; split
  · exact h
  · exact h.of_fields rfl rfl rfl

theorem Books.captureArm {s : State} (h : Books stock s) (source zone : Byte) (startTimeout endGap maxEntries : Half) :
    Books stock (captureArm source zone startTimeout endGap maxEntries s).state := by
  unfold Machine.captureArm; split
  · exact h
  split
  · exact h
  split
  · exact h
  · exact h.of_fields rfl rfl rfl

theorem Books.captureStop {s : State} (h : Books stock s) : Books stock (captureStop s).state := h.of_fields rfl rfl rfl

theorem Books.noticeAck {s : State} (h : Books stock s) (source : Option Byte) :
    Books stock (noticeAck source s).state := by
  unfold Machine.noticeAck; repeat' split
  all_goals exact h.of_fields rfl rfl rfl

theorem Books.noticeSetup {s : State} (h : Books stock s) (threshold : Byte) (entries : List SourceEntry) :
    Books stock (noticeSetup threshold entries s).state := by
  unfold Machine.noticeSetup; split
  · split <;> exact h.of_fields rfl rfl rfl
  · exact h

theorem Books.answer {s : State} (h : Books stock s) (r : Request) : Balanced (answer r s).state := by
  cases r with
  | templateCommit => exact h.templateCommit
  | templateDelete index => exact h.templateDelete index
  | templateBegin index header => exact (h.templateBegin index header).balanced
  | templateAppend selector elements => exact (h.templateAppend selector elements).balanced
  | templateAbandon => exact h.templateAbandon.balanced
  | zoneSetup zone enabled bands group dark => exact (h.zoneSetup zone enabled bands group dark).balanced
  | zoneQuery zone => exact (h.zoneQuery zone).balanced
  | zoneReset zone => exact (h.zoneReset zone).balanced
  | faultClear zone => exact (h.faultClear zone).balanced
  | jobSubmit record => exact (h.jobSubmit record).balanced
  | jobRelease zone tag => exact (h.jobRelease zone tag).balanced
  | jobCancel zone tag mode => exact (h.jobCancel zone tag mode).balanced
  | zoneFlush zone action => exact (h.zoneFlush zone action).balanced
  | completionTake zone => exact (h.completionTake zone).balanced
  | triggerBind line binding => exact (h.triggerBind line binding).balanced
  | noticeFetch source => exact (h.noticeFetch source).balanced
  | slotPlan length masks => exact (h.slotPlan length masks).balanced
  | captureArm source zone startTimeout endGap maxEntries =>
    exact (h.captureArm source zone startTimeout endGap maxEntries).balanced
  | captureStop => exact h.captureStop.balanced
  | noticeAck source => exact (h.noticeAck source).balanced
  | noticeSetup threshold entries => exact (h.noticeSetup threshold entries).balanced
  | templateQuery index offset => exact (templateQuery_state index offset s).symm ▸ h.balanced
  | slotQuery selector => exact (slotQuery_state selector s).symm ▸ h.balanced
  | triggerQuery line => exact (triggerQuery_state line s).symm ▸ h.balanced
  | captureRead offset count => exact (captureRead_state offset count s).symm ▸ h.balanced
  | libraryQuery | carrierQuery | timeQuery | captureQuery | noticePeek | identify | engineReset => exact h.balanced

end

/-! ### The port -/

theorem Balanced.of_fields {s t : State} (h : Balanced s) (hlib : t.library = s.library) (hz : t.zones = s.zones)
    (hl : t.lines = s.lines) : Balanced t :=
  (Books.of_fields h hlib hz hl).balanced

theorem Balanced.startReply {s : State} (h : Balanced s) (code : Byte) (r : Reply) : Balanced (s.startReply code r) :=
  h.of_fields rfl rfl rfl

theorem Balanced.setPort {s : State} (h : Balanced s) (p : Port) : Balanced (s.setPort p) := h.of_fields rfl rfl rfl

theorem Balanced.setBuffer {s : State} (h : Balanced s) (buffer : List (List Byte)) : Balanced (s.setBuffer buffer) :=
  h.of_fields rfl rfl rfl

theorem Balanced.advance {s : State} (h : Balanced s) (instant : Nat) : Balanced (s.advance instant) :=
  h.of_fields rfl rfl rfl

theorem Balanced.handle {s : State} (h : Balanced s) (seq : Byte) (r : Request) : Balanced (s.handle seq r) := by
  unfold State.handle
  split
  · exact Balanced.startReply (Books.answer h r) _ _
  · exact h.startReply _ _

theorem Balanced.handleBody {s : State} (h : Balanced s) (body : List Byte) : Balanced (s.handleBody body) := by
  unfold State.handleBody
  split
  · split
    · exact h.handle _ _
    · exact h.startReply _ _
    · exact h.startReply _ _
  · exact h

theorem Balanced.takeRequest {s : State} (h : Balanced s) : Balanced s.takeRequest := by
  unfold State.takeRequest
  split
  · exact h
  split
  · exact h
  · exact (h.setBuffer _).handleBody _

theorem Balanced.offer {s : State} (h : Balanced s) (body : List Byte) : Balanced (s.offer body) := by
  unfold State.offer
  split
  · exact (h.setBuffer _).takeRequest
  · exact h.of_fields rfl rfl rfl

theorem Balanced.request {s : State} (h : Balanced s) (seq : Byte) (r : Request) : Balanced (s.request seq r) := by
  unfold State.request
  split
  · exact h
  split
  · exact h.handle seq r
  · exact h.offer _

theorem Balanced.assemble {s : State} (h : Balanced s) (b : Byte) : Balanced (s.assemble b) := by
  unfold State.assemble
  split
  · split
    · exact h.setPort _
    · exact h
  · unfold State.lengthByte; split <;> exact h.of_fields rfl rfl rfl
  · exact h.setPort _
  · exact h.setPort _
  · unfold State.lastByte
    split
    · exact (h.setPort _).offer _
    · exact h.of_fields rfl rfl rfl

theorem Balanced.receiveByte {s : State} (h : Balanced s) (data : Byte) (edge : CharEdge) :
    Balanced (receiveByte data edge s) := by
  have idle : Balanced s.rxdIdle := h.of_fields rfl rfl rfl
  unfold Machine.receiveByte
  split
  · exact h.of_fields rfl rfl rfl
  split
  · exact idle
  · exact (idle.assemble data).setPort _

/-! ### Reset -/

/-- An empty library and no jobs and no bindings: nothing is claimed and nothing is used. -/
theorem Balanced.of_reset {s : State} (hlib : s.library = Library.reset) (hz : ∀ z, (s.zone z).named = [])
    (hl : ∀ n, (s.line n).named = []) : Balanced s := by
  have hslot (i : Fin 64) : s.slot i = ⟨none, 0⟩ := by simp [State.slot, hlib, Library.reset]
  have hused : s.library.usedCells = 0 := by rw [hlib]; rfl
  have hclaims (i : Fin 64) : s.claims i = 0 := by simp [State.claims_eq_sum, hz, hl]
  refine ⟨⟨?_, by simp [hused]⟩, fun i => ?_, rfl⟩
  · simp [State.sum_cells, hslot, hused, Slot.cells]
  · simp [hclaims, hslot]

theorem Balanced.released (pins : Pins) (cause : ResetCause) (n : Nat) (p : List Instr) :
    Balanced (State.released pins cause n p) :=
  Balanced.of_reset rfl
    (fun z => by simp only [State.released, State.zone, Fin.getElem_fin, mapVector_getElem]; rfl)
    (fun l => by simp only [State.released, State.line, Fin.getElem_fin, mapVector_getElem]; rfl)

theorem Balanced.beginReset (s : State) (cause : ResetCause) : Balanced (s.beginReset cause) :=
  Balanced.of_reset rfl
    (fun z => by simp only [State.beginReset, State.zone, Fin.getElem_fin, mapVector_getElem]; rfl)
    (fun l => by simp only [State.beginReset, State.line, Fin.getElem_fin, mapVector_getElem]; rfl)

theorem Balanced.release? {s : State} (h : Balanced s) : Balanced s.release? := by
  unfold State.release?
  split
  · exact h
  · next cause _ => exact (Balanced.released s.pins cause s.freeCount s.pending).of_fields rfl rfl rfl

theorem Balanced.supplyRise {s : State} (h : Balanced s) : Balanced (supplyRise s) := by
  unfold Machine.supplyRise
  split
  · exact (Balanced.beginReset s .power).of_fields rfl rfl rfl
  · exact h

theorem Balanced.supplyStable {s : State} (h : Balanced s) : Balanced (supplyStable s) := by
  have k : Balanced { s with supply := .stable } := h.of_fields rfl rfl rfl
  unfold Machine.supplyStable
  split
  · dsimp only
    split
    · exact k.release?
    · exact k
  · exact h

theorem Balanced.supplyFailure {s : State} (h : Balanced s) : Balanced (supplyFailure s) := by
  unfold Machine.supplyFailure
  split
  · exact h
  · exact (Balanced.beginReset s .power).of_fields rfl rfl rfl

theorem Balanced.resetNLow {s : State} (h : Balanced s) : Balanced (resetNLow s) := by
  unfold Machine.resetNLow
  dsimp only
  split
  · exact Balanced.beginReset _ _
  · exact h.of_fields rfl rfl rfl

theorem Balanced.resetNHigh {s : State} (h : Balanced s) : Balanced (resetNHigh s) := by
  have k : Balanced { s with pins := { s.pins with resetN := true } } := h.of_fields rfl rfl rfl
  unfold Machine.resetNHigh
  dsimp only
  split
  · exact k.release?
  · exact k

theorem Balanced.requestResetExpiry {s : State} (h : Balanced s) : Balanced (requestResetExpiry s) := by
  unfold Machine.requestResetExpiry
  split
  · exact (h.advance _).release?
  · exact h

theorem Balanced.replySent {s : State} (h : Balanced s) : Balanced (replySent s) := by
  unfold Machine.replySent
  split
  · exact h
  split
  · exact Balanced.beginReset _ _
  · exact Balanced.takeRequest (h.of_fields rfl rfl rfl)

theorem Balanced.gapTimerExpiry {s : State} (h : Balanced s) : Balanced (gapTimerExpiry s) := by
  unfold Machine.gapTimerExpiry
  split
  · exact h
  split
  · exact h
  · exact h.of_fields rfl rfl rfl

/-! ### Capture -/

theorem Balanced.putSession {s : State} (h : Balanced s) (c : Session) : Balanced (s.putSession c) := by
  unfold State.putSession
  split <;> exact h.of_fields rfl rfl rfl

theorem Balanced.capdEdge {s : State} (h : Balanced s) (level : Bool) : Balanced (capdEdge level s) := by
  have k : Balanced { s with pins := { s.pins with capd := level } } := h.of_fields rfl rfl rfl
  unfold Machine.capdEdge
  dsimp only
  split
  · exact k
  split
  · exact k
  split
  · exact k.putSession _
  · exact k

theorem Balanced.moveInput {s : State} (h : Balanced s) (input : EdgeInput) (level : Bool) :
    Balanced (s.moveInput input level) := by
  cases input with
  | capc => exact h.of_fields rfl rfl rfl
  | loopback => exact h

theorem Balanced.captureRisingEdge {s : State} (h : Balanced s) (input : EdgeInput) :
    Balanced (captureRisingEdge input s) := by
  have k := h.moveInput input true
  unfold Machine.captureRisingEdge
  dsimp only
  split
  · exact k
  split
  · exact k.putSession _
  · exact k

theorem Balanced.captureFallingEdge {s : State} (h : Balanced s) (input : EdgeInput) :
    Balanced (captureFallingEdge input s) := by
  have k := h.moveInput input false
  unfold Machine.captureFallingEdge
  dsimp only
  split
  · exact k
  split
  · exact k.putSession _
  · exact k

theorem Balanced.markEndTimeout {s : State} (h : Balanced s) : Balanced (markEndTimeout s) := by
  unfold Machine.markEndTimeout
  split
  · exact h
  split
  · split
    · exact h
    · exact (h.advance _).putSession _
  · exact h

theorem Balanced.initialSpaceRecognised {s : State} (h : Balanced s) : Balanced (initialSpaceRecognised s) := by
  unfold Machine.initialSpaceRecognised
  repeat' split
  all_goals exact h.of_fields rfl rfl rfl

theorem Balanced.startTimeoutExpiry {s : State} (h : Balanced s) : Balanced (startTimeoutExpiry s) := by
  unfold Machine.startTimeoutExpiry
  repeat' split
  all_goals exact h.of_fields rfl rfl rfl

theorem Balanced.endGapExpiry {s : State} (h : Balanced s) : Balanced (endGapExpiry s) := by
  unfold Machine.endGapExpiry
  repeat' split
  all_goals exact h.of_fields rfl rfl rfl

theorem Balanced.stuckMark {s : State} (h : Balanced s) : Balanced (stuckMark s) := by
  unfold Machine.stuckMark
  repeat' split
  all_goals exact h.of_fields rfl rfl rfl

/-! ### Every command and every step -/

/-- Every command answers a next state, and that state's books balance. -/
theorem Balanced.exec {s : State} (h : Balanced s) (c : Instr) : ∃ t, exec c s = .next t ∧ Balanced t := by
  cases hc : requestOf c with
  | some qr => exact ⟨_, exec_request hc s, h.request _ _⟩
  | none =>
    cases c with
    | receiveByte data edge => exact ⟨_, rfl, h.receiveByte data edge⟩
    | gapTimerExpiry => exact ⟨_, rfl, h.gapTimerExpiry⟩
    | replySent => exact ⟨_, rfl, h.replySent⟩
    | supplyRise => exact ⟨_, rfl, h.supplyRise⟩
    | supplyStable => exact ⟨_, rfl, h.supplyStable⟩
    | supplyFailure => exact ⟨_, rfl, h.supplyFailure⟩
    | resetNLow => exact ⟨_, rfl, h.resetNLow⟩
    | resetNHigh => exact ⟨_, rfl, h.resetNHigh⟩
    | requestResetExpiry => exact ⟨_, rfl, h.requestResetExpiry⟩
    | slotBoundary => exact ⟨_, rfl, (Books.slotBoundary h).balanced⟩
    | phaseEnd z => exact ⟨_, rfl, (Books.phaseEnd h z).balanced⟩
    | frameTimerExpiry z => exact ⟨_, rfl, (Books.frameTimerExpiry h z).balanced⟩
    | quietTimeExpiry z => exact ⟨_, rfl, (Books.quietTimeExpiry h z).balanced⟩
    | driverFault z report => exact ⟨_, rfl, (Books.driverReport h z report).balanced⟩
    | trigPinChange line level => exact ⟨_, rfl, (Books.trigPinChange h line level).balanced⟩
    | debounceExpiry line => exact ⟨_, rfl, (Books.debounceExpiry h line).balanced⟩
    | capdEdge level => exact ⟨_, rfl, h.capdEdge level⟩
    | captureRisingEdge input => exact ⟨_, rfl, h.captureRisingEdge input⟩
    | captureFallingEdge input => exact ⟨_, rfl, h.captureFallingEdge input⟩
    | markEndTimeout => exact ⟨_, rfl, h.markEndTimeout⟩
    | startTimeoutExpiry => exact ⟨_, rfl, h.startTimeoutExpiry⟩
    | endGapExpiry => exact ⟨_, rfl, h.endGapExpiry⟩
    | stuckMark => exact ⟨_, rfl, h.stuckMark⟩
    | highHalfStart g => exact ⟨_, rfl, (Books.highHalfStart h g).balanced⟩
    | highHalfEnd owner => exact ⟨_, rfl, (Books.highHalfEnd h owner).balanced⟩
    | initialSpaceRecognised => exact ⟨_, rfl, h.initialSpaceRecognised⟩
    | _ => cases hc

theorem Balanced.idle {s : State} (h : Balanced s) : Balanced s.idle := by
  unfold State.idle State.choose
  repeat' split
  all_goals exact h.of_fields rfl rfl rfl

theorem Balanced.step {s t : State} (h : Balanced s) (hstep : step s = .next t) : Balanced t := by
  unfold Machine.step at hstep
  split at hstep
  · cases hstep; exact h.idle
  · next c rest _ =>
    have k : Balanced { s with pending := rest } := h.of_fields rfl rfl rfl
    obtain ⟨u, hu, hbooks⟩ := k.exec c
    rw [hu] at hstep
    cases hstep
    exact hbooks

/-- Settles O59: the two laws are the books, and every step keeps the books. -/
theorem stepKeepsCellsAndUseCounts : Obligations.StepKeepsCellsAndUseCounts := by
  intro s t hcells huses hstep
  have h : Balanced t := Balanced.step ⟨hcells, huses, rfl⟩ hstep
  exact ⟨h.cells, h.uses⟩

end Sys2Proof.Machine
end

section
/-! The Code Library's requests (R10 to R19): one lemma for each thing a request can answer, then the statements. -/
namespace Sys2Proof.Machine

/-- A request command on a free port, once its owner's answer is known. -/
theorem exec_answer {c : Instr} {q : Byte} (r : Request) (h : requestOf c = some (q, r)) (hl : r.lengthOk = true)
    {s : State} (hs : s.ready) {a : Answer} (ha : answer r s = a) :
    exec c s = .next (a.state.replying (requestCode r) q a.status a.fields) := ha ▸ exec_ready h hl hs

/-! ### TEMPLATE BEGIN (R10) -/

theorem templateBegin_refused {index : Byte} {h : TemplateHeader}
    (hbad : 64 ≤ index.toNat ∨ ¬ HeaderDefined h) (s : State) :
    templateBegin index h s = refuse s .badField := by
  unfold templateBegin
  split
  · rfl
  · next i hi =>
    have hlt : index.toNat < 64 := index?_eq_some.mp hi ▸ i.isLt
    have hh : ¬ headerOk h = true := fun k => hbad.elim (by omega) (· ((headerOk_iff h).mp k))
    rw [if_neg hh]

theorem templateBegin_opened {h : TemplateHeader} (hh : HeaderDefined h) (i : Fin 64) (s : State) :
    templateBegin (byteOf i) h s = accept (s.setStaging (some { target := i, header := h, main := [], rep := [] }))
      (.templateBegin (s.library.staging.map Staging.target) (s.slot i).template.isSome (s.slot i).useCount) := by
  simp [templateBegin, (headerOk_iff h).mpr hh]

/-- Settles O15: the checks of R10, and the staging area of a header that passes them. -/
theorem templateBeginOpensStaging : Obligations.TemplateBeginOpensStaging := by
  intro q h s hs
  exact ⟨fun _ hbad => exec_answer (.templateBegin _ h) rfl rfl hs (templateBegin_refused hbad s),
    fun i hh => exec_answer (.templateBegin _ h) rfl rfl hs (templateBegin_opened hh i s)⟩

/-! ### TEMPLATE APPEND (R11) -/

theorem listName?_selectorOf (name : ListName) : listName? (selectorOf name) = some name := by cases name <;> rfl

theorem listName?_eq_none {sel : Byte} (h : 2 ≤ sel.toNat) : listName? sel = none := by
  have h0 : sel ≠ 0x00#8 := by rintro rfl; simp at h
  have h1 : sel ≠ 0x01#8 := by rintro rfl; simp at h
  simp [listName?, h0, h1]

/-- The staged lists stay within R4's capacities. -/
theorem Staging.fits_iff (st : Staging) : st.fits = true ↔ st.main.length ≤ 48 ∧ st.rep.length ≤ 16 := by
  simp [Staging.fits]

theorem templateAppend_closed {s : State} (h : s.library.staging = none) (sel : Byte) (es : List ElementRecord) :
    templateAppend sel es s = refuse s .badState := by simp [templateAppend, h]

theorem templateAppend_undefined {s : State} {st : Staging} (h : s.library.staging = some st) {sel : Byte}
    {es : List ElementRecord} (hbad : 2 ≤ sel.toNat ∨ ∃ e ∈ es, ∀ x, ¬ ElementRead e x) :
    templateAppend sel es s = refuse s .badField := by
  rcases hbad with hsel | hes
  · simp [templateAppend, h, listName?_eq_none hsel]
  · simp [templateAppend, h, elements?_eq_none es hes]

/-- What an APPEND of defined operands makes of the staged contents: all its elements join, or it is refused. -/
theorem templateAppend_defined {s : State} {st : Staging} (h : s.library.staging = some st) (name : ListName)
    {es : List ElementRecord} {xs : List Element} (hes : List.Forall₂ ElementRead es xs) :
    templateAppend (selectorOf name) es s =
      if (st.append name xs).fits then
        accept (s.setStaging (some (st.append name xs)))
          (.templateAppend (st.append name xs).main.length (st.append name xs).rep.length)
      else refuse s .badField := by
  simp [templateAppend, h, listName?_selectorOf, (elements?_iff es xs).mpr hes]

theorem Staging.not_fits_append {st : Staging} {name : ListName} {xs : List Element}
    (h : listCapacity name < (st.template.elements name).length + xs.length) : (st.append name xs).fits = false := by
  rw [← Bool.not_eq_true, Staging.fits_iff]
  cases name <;>
    simp only [Staging.append, Staging.template, Template.elements, listCapacity, List.length_append] at h ⊢ <;> omega

/-- Settles O16: the checks of R11 in order, and an append within the capacities. -/
theorem templateAppendAddsAllOrNone : Obligations.TemplateAppendAddsAllOrNone := by
  intro q sel es s hs hlow hhigh
  have hl : (Request.templateAppend sel es).lengthOk = true := by simp [Request.lengthOk, hlow, hhigh]
  refine ⟨fun hst => ?_, fun hst hbad => ?_, fun st name xs hst hsel hes hover => ?_,
    fun st xs hst hsel hes hrep hmain => ?_, fun st xs hst hsel hes hmain hrep => ?_⟩
  · exact exec_answer _ rfl hl hs (templateAppend_closed hst sel es)
  · obtain ⟨st, hst⟩ := Option.ne_none_iff_exists'.mp hst
    exact exec_answer _ rfl hl hs (templateAppend_undefined hst hbad)
  · subst hsel
    refine exec_answer _ rfl hl hs ((templateAppend_defined hst name hes).trans (if_neg ?_))
    simp [Staging.not_fits_append hover]
  · subst hsel
    have hfits : (st.append .main xs).fits = true := by
      rw [Staging.fits_iff]; simp [Staging.append]; omega
    have k := exec_answer (c := .templateAppend q _ es) _ rfl hl hs
      ((templateAppend_defined hst .main hes).trans (if_pos hfits))
    simp only [accept, Staging.append, List.length_append] at k
    exact k
  · subst hsel
    have hfits : (st.append .rep xs).fits = true := by
      rw [Staging.fits_iff]; simp [Staging.append]; omega
    have k := exec_answer (c := .templateAppend q _ es) _ rfl hl hs
      ((templateAppend_defined hst .rep hes).trans (if_pos hfits))
    simp only [accept, Staging.append, List.length_append] at k
    exact k

/-! ### TEMPLATE ABANDON (R12) -/

/-- Settles O19: OPEN closes, CLOSED is ALREADY. -/
theorem templateAbandonClosesStaging : Obligations.TemplateAbandonClosesStaging := by
  intro q s hs
  refine ⟨fun hst => ?_, fun hst => ?_⟩
  · have ha : templateAbandon s = accept (s.setStaging none) .none := by
      simp [templateAbandon, Option.isSome_iff_ne_none.mpr hst]
    exact exec_answer .templateAbandon rfl rfl hs ha
  · have ha : templateAbandon s = refuse s .already := by simp [templateAbandon, hst]
    exact exec_answer .templateAbandon rfl rfl hs ha

/-! ### Validation (R14) -/

/-- The checks of R14 in their order, each with the reason it gives if it fails. -/
def checks (st : Staging) : List (Option Invalid) :=
  [ if st.main.isEmpty then some .emptyMain else none,
    if st.main.any Element.bearsMark then none else some (.noMark .main),
    if st.rep.isEmpty || st.rep.any Element.bearsMark then none else some (.noMark .rep),
    (firstOver 64 0 0 st.main).map .dataOver64,
    (firstEcho 0 0 st.main).map (.echoExceeds .main),
    (firstEcho 0 0 st.rep).map (.echoExceeds .rep),
    (firstOver (dataBits st.main) 0 0 st.rep).map .repeatDataExceeds,
    if periodOk st.header.leadPeriod then none else some (.periodRange .main),
    if periodOk st.header.repeatPeriod then none else some (.periodRange .rep),
    if st.header.holdLimit.toNat < 1 + st.header.minRepeats.toNat then some .holdBelowMin else none ]

theorem validate_eq_findSome? (st : Staging) : validate st = (checks st).findSome? id := rfl

theorem any_bearsMark_eq_false (es : List Element) :
    es.any Element.bearsMark = false ↔ ∀ e ∈ es, ∃ d, e = .space d := by
  have one (e : Element) : e.bearsMark = false ↔ ∃ d, e = .space d := by cases e <;> simp [Element.bearsMark]
  simp [one]

theorem firstOver_eq_some_iff (limit n : Nat) (es : List Element) :
    firstOver limit 0 0 es = some n ↔ OverAt limit es n := by
  simp [firstOver_eq_some, OverAt]

theorem firstEcho_eq_some_iff (n : Nat) (es : List Element) : firstEcho 0 0 es = some n ↔ EchoAt es n := by
  simp [firstEcho_eq_some, EchoAt]

theorem periodOk_eq_false (p : Word) : periodOk p = false ↔ PeriodBad p := by
  simp [periodOk, PeriodBad]; intro _; omega

/-- A check gives no reason but those of its own place. -/
theorem checkRank_of_checks {st : Staging} {k : Nat} {r : Invalid} (h : (checks st)[k]? = some (some r)) :
    checkRank r = k := by
  have of_if {c : Prop} [Decidable c] {a : Invalid} (h : (if c then some a else none) = some r) : r = a := by
    split at h <;> cases h; rfl
  have of_if_not {c : Prop} [Decidable c] {a : Invalid} (h : (if c then none else some a) = some r) : r = a := by
    split at h <;> cases h; rfl
  match k with
  | 0 => cases of_if (Option.some.inj h); rfl
  | 1 => cases of_if_not (Option.some.inj h); rfl
  | 2 => cases of_if_not (Option.some.inj h); rfl
  | 3 | 4 | 5 | 6 => obtain ⟨p, -, rfl⟩ := Option.map_eq_some_iff.mp (Option.some.inj h); rfl
  | 7 => cases of_if_not (Option.some.inj h); rfl
  | 8 => cases of_if_not (Option.some.inj h); rfl
  | 9 => cases of_if (Option.some.inj h); rfl
  | n + 10 => simp [checks] at h

/-- The check at the place of a reason fails exactly where R14 says so. -/
theorem checks_eq_some_iff (st : Staging) (r : Invalid) :
    (checks st)[checkRank r]? = some (some r) ↔ FailsCheck st r := by
  match r with
  | .emptyMain => simp [checks, checkRank, FailsCheck]
  | .noMark .main =>
    rw [FailsCheck, ← any_bearsMark_eq_false]; simp [checks, checkRank]
  | .noMark .rep =>
    rw [FailsCheck, ← any_bearsMark_eq_false]; simp [checks, checkRank]
  | .dataOver64 p => simp [checks, checkRank, FailsCheck, firstOver_eq_some_iff]
  | .echoExceeds .main p => simp [checks, checkRank, FailsCheck, firstEcho_eq_some_iff]
  | .echoExceeds .rep p => simp [checks, checkRank, FailsCheck, firstEcho_eq_some_iff]
  | .repeatDataExceeds p => simp [checks, checkRank, FailsCheck, firstOver_eq_some_iff]
  | .periodRange .main => simp [checks, checkRank, FailsCheck, ← periodOk_eq_false]
  | .periodRange .rep => simp [checks, checkRank, FailsCheck, ← periodOk_eq_false]
  | .holdBelowMin => simp [checks, checkRank, FailsCheck]

/-- The reason that validation gives is of a check that fails, and no earlier check fails. -/
theorem validate_sound {st : Staging} {r : Invalid} (h : validate st = some r) :
    FailsCheck st r ∧ ∀ other, FailsCheck st other → checkRank r ≤ checkRank other := by
  rw [validate_eq_findSome?, List.findSome?_eq_some_iff] at h
  obtain ⟨before, a, behind, hl, ha, hbefore⟩ := h
  have hat : (checks st)[before.length]? = some (some r) := by rw [hl]; simpa using ha
  have hrank := checkRank_of_checks hat
  refine ⟨(checks_eq_some_iff st r).mp (hrank ▸ hat), fun other hother => ?_⟩
  by_contra hlt
  have hin : (checks st)[checkRank other]? = some (some other) := (checks_eq_some_iff st other).mpr hother
  rw [hl, List.getElem?_append_left (by omega)] at hin
  cases hbefore _ (List.mem_of_getElem? hin)

/-- Validation finds no reason exactly when no check fails. -/
theorem validate_eq_none_iff (st : Staging) : validate st = none ↔ ∀ r, ¬ FailsCheck st r := by
  constructor
  · intro h r hr
    have hall := List.findSome?_eq_none_iff.mp ((validate_eq_findSome? st).symm.trans h)
    cases hall _ (List.mem_of_getElem? ((checks_eq_some_iff st r).mpr hr))
  · intro h
    cases hv : validate st with
    | none => rfl
    | some r => exact absurd (validate_sound hv).1 (h r)

/-- Two failing checks of one place have the same reason. -/
theorem reason_unique {st : Staging} {r r' : Invalid} (h : FailsCheck st r) (h' : FailsCheck st r')
    (hrank : checkRank r = checkRank r') : r = r' := by
  rw [← checks_eq_some_iff, hrank, (checks_eq_some_iff st r').mpr h'] at h
  exact (Option.some.inj (Option.some.inj h)).symm

theorem validate_eq_some_iff (st : Staging) (r : Invalid) :
    validate st = some r ↔ FailsCheck st r ∧ ∀ other, FailsCheck st other → checkRank r ≤ checkRank other := by
  refine ⟨validate_sound, fun ⟨hr, hfirst⟩ => ?_⟩
  cases hv : validate st with
  | none => exact absurd hr ((validate_eq_none_iff st).mp hv r)
  | some r' =>
    obtain ⟨hr', hfirst'⟩ := validate_sound hv
    rw [reason_unique hr hr' (Nat.le_antisymm (hfirst r' hr') (hfirst' r hr))]

/-! The seven checks of R14 pass exactly when none of them fails. -/

theorem forall_not_overAt (limit : Nat) (es : List Element) : (∀ p, ¬ OverAt limit es p) ↔ dataBits es ≤ limit := by
  have h := firstOver_eq_none limit 0 0 es (Nat.zero_le _)
  rw [Option.eq_none_iff_forall_ne_some] at h
  simpa [firstOver_eq_some_iff] using h

theorem forall_not_echoAt (es : List Element) :
    (∀ p, ¬ EchoAt es p) ↔ ∀ p c, es[p]? = some (.dataEcho c) → c ≤ bitsTakenAt es p := by
  constructor
  · intro h p
    induction p using Nat.strong_induction_on with
    | _ p ih =>
      intro c hc
      by_contra hlt
      exact h p ⟨⟨c, hc, by omega⟩, fun q c' hq => ih q hq c'⟩
  · rintro h p ⟨⟨c, hc, hlt⟩, -⟩
    have := h p c hc
    omega

theorem forall_space_iff_not_bearsMark (es : List Element) :
    (¬ ∀ e ∈ es, ∃ d, e = .space d) ↔ ∃ e ∈ es, e.bearsMark = true := by
  rw [← any_bearsMark_eq_false, Bool.not_eq_false, List.any_eq_true]

theorem not_periodBad (p : Word) : ¬ PeriodBad p ↔ p = 0 ∨ (1000 ≤ p.toNat ∧ p.toNat ≤ 1000000) := by
  simp only [PeriodBad, not_and_or, not_or, not_not, not_lt, ne_eq]

theorem validStaging_iff (st : Staging) : ValidStaging st ↔ ∀ r, ¬ FailsCheck st r := by
  have hrep : (st.rep = [] ∨ ∃ e ∈ st.rep, e.bearsMark = true) ↔ ¬ FailsCheck st (.noMark .rep) := by
    rw [← forall_space_iff_not_bearsMark, FailsCheck]; tauto
  have hhold : 1 + st.header.minRepeats.toNat ≤ st.header.holdLimit.toNat ↔ ¬ FailsCheck st .holdBelowMin :=
    Nat.not_lt.symm
  rw [ValidStaging, hrep, hhold, ← forall_space_iff_not_bearsMark, ← forall_not_overAt, ← forall_not_overAt,
    ← forall_not_echoAt, ← forall_not_echoAt, ← not_periodBad, ← not_periodBad]
  constructor
  · rintro ⟨hempty, hmark, hmarkRep, hover, hecho, hechoRep, hoverRep, hlead, hrepeat, hlimit⟩ r
    match r with
    | .emptyMain => exact hempty
    | .noMark .main => exact hmark
    | .noMark .rep => exact hmarkRep
    | .dataOver64 p => exact hover p
    | .echoExceeds .main p => exact hecho p
    | .echoExceeds .rep p => exact hechoRep p
    | .repeatDataExceeds p => exact hoverRep p
    | .periodRange .main => exact hlead
    | .periodRange .rep => exact hrepeat
    | .holdBelowMin => exact hlimit
  · intro h
    exact ⟨h .emptyMain, h (.noMark .main), h (.noMark .rep), fun p => h (.dataOver64 p), fun p => h (.echoExceeds .main p),
      fun p => h (.echoExceeds .rep p), fun p => h (.repeatDataExceeds p), h (.periodRange .main), h (.periodRange .rep),
      h .holdBelowMin⟩

theorem validate_eq_none_iff_valid (st : Staging) : validate st = none ↔ ValidStaging st :=
  (validate_eq_none_iff st).trans (validStaging_iff st).symm

/-- Settles O17, from the list of checks: the first that fails gives the reason. -/
theorem validationPassesValidStaging : Obligations.ValidationPassesValidStaging :=
  fun st => ⟨validate_eq_none_iff_valid st, validate_eq_some_iff st⟩

/-! ### TEMPLATE COMMIT (R13, R15, R16) -/

/-- What a commit that passes installs, with every field that it changes. -/
theorem State.install_eq (s : State) (i : Fin 64) (t : Template) (huse : (s.slot i).useCount = 0) :
    s.install i t = { s with
      library := { slots := s.library.slots.set i { template := some t, useCount := 0 }
                   usedCells := s.library.usedCells + t.cells - (s.slot i).cells, staging := none }
      zones := mapVector (fun zn : Zone => { zn with toggles := zn.toggles.set i false }) s.zones } := by
  rw [← huse]; rfl

/-- A commit of valid contents: the use count, then the pool, then the install. -/
theorem templateCommit_valid {s : State} {st : Staging} (h : s.library.staging = some st) (hv : ValidStaging st) :
    templateCommit s =
      if (s.slot st.target).useCount ≠ 0 then refuseWith s .inUse (.inUse (s.slot st.target).useCount)
      else if s.library.freeCells + s.cellsAt st.target < st.template.cells then
        refuseWith s .noSpace (.noSpace (st.template.cells - s.cellsAt st.target) s.library.freeCells)
      else accept (s.install st.target st.template)
        (.templateCommit st.target (s.slot st.target).template.isSome st.template.cells (dataBits st.main) st.template.band
          (s.install st.target st.template).library.usedCells (s.install st.target st.template).library.freeCells) := by
  simp only [templateCommit, h, (validate_eq_none_iff_valid st).mpr hv]

/-- Settles O18: the four checks of R13 in order, and the install of R15 and R16. -/
theorem templateCommitChecksAndInstalls : Obligations.TemplateCommitChecksAndInstalls := by
  intro q s hs
  refine ⟨fun hst => ?_, fun st hst => ⟨_, _, _, rfl, rfl, rfl, fun reason hr => ?_, fun hv huse => ?_,
    fun hv huse hroom => ?_, fun hv huse hroom => ?_⟩⟩
  · have ha : templateCommit s = refuse s .badState := by simp [templateCommit, hst]
    exact exec_answer .templateCommit rfl rfl hs ha
  · have ha : templateCommit s = refuseWith s .invalidTemplate (.invalidTemplate reason) := by
      simp [templateCommit, hst, hr]
    exact exec_answer .templateCommit rfl rfl hs ha
  · exact exec_answer .templateCommit rfl rfl hs ((templateCommit_valid hst hv).trans (if_pos huse))
  · exact exec_answer .templateCommit rfl rfl hs
      ((templateCommit_valid hst hv).trans ((if_neg (not_not.mpr huse)).trans (if_pos hroom)))
  · have k := exec_answer (c := .templateCommit q) .templateCommit rfl rfl hs
      ((templateCommit_valid hst hv).trans ((if_neg (not_not.mpr huse)).trans (if_neg (Nat.not_lt.mpr hroom))))
    rw [State.install_eq s st.target st.template huse] at k
    exact k

/-! ### TEMPLATE DELETE (R17, R16) -/

/-- What a delete changes. -/
theorem State.remove_eq (s : State) (i : Fin 64) (huse : (s.slot i).useCount = 0) :
    s.remove i = { s with
      library := { s.library with slots := s.library.slots.set i { template := none, useCount := 0 }
                                  usedCells := s.library.usedCells - (s.slot i).cells }
      zones := mapVector (fun zn : Zone => { zn with toggles := zn.toggles.set i false }) s.zones } := by
  rw [← huse]; rfl

/-- A delete of an index that R17 allows: the slot, then its use count. -/
theorem templateDelete_byteOf (i : Fin 64) (s : State) :
    templateDelete (byteOf i) s =
      if (s.slot i).template.isNone then refuse s .noTemplate
      else if (s.slot i).useCount ≠ 0 then refuseWith s .inUse (.inUse (s.slot i).useCount)
      else accept (s.remove i)
        (.templateDelete (s.slot i).cells (s.remove i).library.usedCells (s.remove i).library.freeCells) := by
  simp only [templateDelete, index?_byteOf_64]; rfl

/-- Settles O20: the checks of R17 in order, and what the delete of an unused template changes. -/
theorem templateDeleteEmptiesSlot : Obligations.TemplateDeleteEmptiesSlot := by
  intro q s hs
  refine ⟨fun index hi => ?_, fun i => ⟨fun ht => ?_, fun ht huse => ?_, fun t ht huse => ⟨_, _, rfl, rfl, ?_⟩⟩⟩
  · have ha : templateDelete index s = refuse s .badField := by simp [templateDelete, index?_eq_none hi]
    exact exec_answer (.templateDelete index) rfl rfl hs ha
  · exact exec_answer (.templateDelete (byteOf i)) rfl rfl hs ((templateDelete_byteOf i s).trans (if_pos (by simp [ht])))
  · exact exec_answer (.templateDelete (byteOf i)) rfl rfl hs
      ((templateDelete_byteOf i s).trans ((if_neg (by simpa using ht)).trans (if_pos huse)))
  · have k := exec_answer (c := .templateDelete q (byteOf i)) (.templateDelete (byteOf i)) rfl rfl hs
      ((templateDelete_byteOf i s).trans ((if_neg (by simp [ht])).trans (if_neg (not_not.mpr huse))))
    rw [State.remove_eq s i huse, Slot.cells, ht] at k
    exact k

/-! ### TEMPLATE QUERY and LIBRARY QUERY (R18, R19) -/

/-- A query of an installed template: the offset, then the report. -/
theorem templateQuery_installed {s : State} {i : Fin 64} {t : Template} (ht : (s.slot i).template = some t) (offset : Byte) :
    templateQuery (byteOf i) offset s =
      if offset.toNat < t.cells then accept s (.templateQuery (templateReport t (s.slot i).useCount offset.toNat))
      else refuse s .badField := by
  simp only [templateQuery, index?_byteOf_64, ht]

theorem Template.cells_eq_length (t : Template) : t.cells = (t.main ++ t.rep).length := List.length_append.symm

/-- LIBRARY QUERY counts the slots that it lists as INSTALLED. -/
theorem libraryReport_count (l : Library) :
    (libraryReport l).count = ((libraryReport l).installed.toList.filter id).length := by
  simp [libraryReport, List.filter_map]

/-- Settles O21: the element records, the checks of R18 with its report, and the report of R19. -/
theorem libraryQueriesReport : Obligations.LibraryQueriesReport := by
  refine ⟨⟨fun _ => rfl, fun _ => rfl, fun _ => rfl, fun _ => rfl, rfl⟩, fun q s hs =>
    ⟨fun index offset hi => ?_, fun i offset ht => ?_, fun i offset t ht hlen => ?_, fun i offset t ht hlen => ?_,
      libraryReport s.library, exec_answer .libraryQuery rfl rfl hs rfl, rfl, rfl, fun i => ?_, libraryReport_count _, rfl⟩⟩
  · have ha : templateQuery index offset s = refuse s .badField := by simp [templateQuery, index?_eq_none hi]
    exact exec_answer (.templateQuery index offset) rfl rfl hs ha
  · have ha : templateQuery (byteOf i) offset s = refuse s .noTemplate := by simp [templateQuery, ht]
    exact exec_answer (.templateQuery (byteOf i) offset) rfl rfl hs ha
  · rw [← Template.cells_eq_length] at hlen
    exact exec_answer (.templateQuery (byteOf i) offset) rfl rfl hs
      ((templateQuery_installed ht offset).trans (if_neg (Nat.not_lt.mpr hlen)))
  · rw [← Template.cells_eq_length] at hlen
    rw [← toggled_iff]
    exact exec_answer (.templateQuery (byteOf i) offset) rfl rfl hs
      ((templateQuery_installed ht offset).trans (if_pos hlen))
  · simp [libraryReport, State.slot]

end Sys2Proof.Machine
end

section
/-! The part at reset release: what each block holds (R181), and the laws there. -/
namespace Sys2Proof.Machine

section
variable (pins : Pins) (cause : ResetCause) (n : Nat) (p : List Instr)

/-! ### Reading a block at release -/

@[simp] theorem State.zone_released (z : Fin 8) :
    (State.released pins cause n p).zone z = Zone.reset (StrapClass.ofLevel pins.zclass[z]) := by
  simp [State.released, State.zone]

@[simp] theorem State.slot_released (i : Fin 64) : (State.released pins cause n p).slot i = ⟨none, 0⟩ := by
  simp [State.released, State.slot, Library.reset]

@[simp] theorem State.generator_released (g : Fin 4) : (State.released pins cause n p).generator g = Generator.reset := by
  simp [State.released, State.generator]

@[simp] theorem State.line_released (l : Fin 4) : (State.released pins cause n p).line l = Line.reset pins.trig[l] := by
  simp [State.released, State.line]

theorem State.notices_released : (State.released pins cause n p).notices = Notices.reset (some cause) := rfl

theorem State.setting_released (m : Source) :
    (State.released pins cause n p).setting m = Notices.defaultSettings[m.number] := rfl

@[simp] theorem State.locks_released (g : Fin 4) : (State.released pins cause n p).arbiter.locks[g] = none := by
  simp [State.released, Arbiter.reset]

theorem State.timeBase_released : (State.released pins cause n p).timeBase = 0 := by
  simp [State.timeBase, State.released, reading]

/-! ### The outputs and the notices at release -/

theorem State.zout_released (z : Fin 8) : (State.released pins cause n p).zout z = false := by
  simp [State.zout, Zone.reset, Zone.gateOpen, Zone.phase]

theorem State.loopback_released (z : Fin 8) : (State.released pins cause n p).loopback z = false := by
  simp [State.loopback, Zone.reset, Zone.gateOpen, Zone.phase]

theorem State.setting_released_unmasked (m : Source) : ((State.released pins cause n p).setting m).masked = false := by
  rw [State.setting_released]
  cases m with
  | zone z => revert z; decide
  | engine | fault | link | capture | trigger => rfl

theorem State.setting_released_zone (z : Fin 8) : ((State.released pins cause n p).setting (.zone z)).priority = 6 := by
  rw [State.setting_released]; revert z; decide

/-- ENGINE alone is pending at release. -/
theorem State.sourcePending_released (m : Source) :
    (State.released pins cause n p).sourcePending m = decide (m = .engine) := by
  cases m with
  | zone z => simp [State.sourcePending, Zone.reset]
  | trigger => simp [State.sourcePending, State.notices_released, Notices.reset]
  | engine | fault | link | capture => rfl

/-- ENGINE alone is deliverable at release. -/
theorem State.deliverable_released (m : Source) :
    (State.released pins cause n p).deliverable m = decide (m = .engine) := by
  rw [State.deliverable, State.sourcePending_released]
  by_cases hm : m = .engine
  · subst hm; rfl
  · simp [hm]

theorem State.pick_released : (State.released pins cause n p).pick = some .engine := by
  have hfilter : allSources.filter (State.released pins cause n p).deliverable = [.engine] := by
    rw [funext (State.deliverable_released pins cause n p)]; rfl
  rw [State.pick, hfilter]; rfl

end

/-! ### A zone at release has no active job -/

theorem Zone.reset_not_waits (strap : StrapClass) : ¬ (Zone.reset strap).waits := fun ⟨_, ha, _⟩ => nomatch ha

theorem Zone.reset_not_plays (strap : StrapClass) : ¬ (Zone.reset strap).plays := fun ⟨_, _, ha, _⟩ => nomatch ha

/-- Settles O3, block by block. -/
theorem resetReleaseValues : Obligations.ResetReleaseValues := by
  intro pins cause n p
  refine ⟨_, rfl, rfl, State.timeBase_released pins cause n p, ?slots, rfl, rfl, rfl, ?zones, rfl, rfl, rfl, ?masks, rfl, rfl, ?locks,
    ?generators, ?lines, rfl,
    State.setting_released_unmasked pins cause n p, rfl, rfl, rfl, rfl, rfl, State.setting_released_zone pins cause n p,
    rfl, rfl, rfl, rfl, rfl, rfl, ?triggers, State.pick_released pins cause n p, ?attn, rfl, rfl, rfl, rfl, rfl⟩
  case slots => simp
  case zones =>
    intro z
    rw [State.zone_released]
    exact ⟨rfl, rfl, rfl, rfl, rfl, rfl, rfl, rfl, rfl, by simp [Zone.reset], rfl, rfl, rfl,
      State.zout_released pins cause n p z, State.loopback_released pins cause n p z⟩
  case masks => simp [State.released, Arbiter.reset, SlotPlan.default]
  case locks => exact State.locks_released pins cause n p
  case generators => simp [Generator.reset]
  case lines => simp [Line.reset]
  case triggers => simp [State.notices_released, Notices.reset]
  case attn => rw [State.attn, State.pick_released]; rfl

/-- Settles O4: every list that a law speaks of is empty at release. -/
theorem lawsHoldAtReset : Obligations.LawsHoldAtReset := by
  have books : Balanced State.reset := Balanced.released ..
  refine ⟨List.Pairwise.nil, ⟨fun z => ?_, Nat.zero_le _⟩, fun z => ?_, ⟨List.nodup_nil, fun z => ?_⟩, fun g z => ?_,
    ⟨fun z hz => ?_, fun g => ?_⟩, books.cells, books.uses, fun c hc => nomatch hc⟩
  · simp [State.reset, Zone.reset, Zone.activeCount]
  · simp [State.reset, Zone.reset, Zone.jobs]
  · rw [State.reset, State.zone_released]
    exact iff_of_false List.not_mem_nil (Zone.reset_not_waits _)
  · rw [State.reset, State.zone_released, State.locks_released]
    exact iff_of_false (nomatch ·) fun h => Zone.reset_not_plays _ h.2
  · rw [State.reset, State.zone_released] at hz
    exact absurd hz (Zone.reset_not_waits _)
  · simp [State.reset, Generator.reset, Zone.reset_not_plays]

end Sys2Proof.Machine
end

section
/-!
The capacities of queues, completion lists and request buffer (R23, R25, R176) and the distinct tags of a zone's live jobs
(R23), as one predicate of each zone. A change that adds no job and no record keeps it; so do activation and submission,
whose own checks make the room they use.
-/
namespace Sys2Proof.Machine

/-! ### A zone within its capacities -/

/-- R23 and R25 of one zone: queue and records within their capacities, the tags of its live jobs distinct. -/
structure Zone.Fits (zn : Zone) : Prop where
  queue : zn.queue.length ≤ 8
  records : zn.completions.length + zn.activeCount ≤ 4
  tags : (zn.jobs.map Job.tag).Nodup

/-- `new` has no job and no record that `old` has not, an active job counting for the record that it will leave. -/
structure Zone.Within (new old : Zone) : Prop where
  queue : new.queue.length ≤ old.queue.length
  records : new.completions.length + new.activeCount ≤ old.completions.length + old.activeCount
  tags : (new.jobs.map Job.tag).Sublist (old.jobs.map Job.tag)

/-- Nothing that a zone's capacities speak of changes. -/
theorem Zone.Within.of_same {new old : Zone} (hq : new.queue = old.queue) (ha : new.active = old.active)
    (hc : new.completions = old.completions) : new.Within old := by
  refine ⟨by rw [hq], by rw [hc, Zone.activeCount, Zone.activeCount, ha], ?_⟩
  rw [Zone.jobs, Zone.jobs, ha, hq]

theorem Zone.Fits.of_within {new old : Zone} (h : old.Fits) (w : new.Within old) : new.Fits :=
  ⟨w.queue.trans h.queue, w.records.trans h.records, h.tags.sublist w.tags⟩

theorem Zone.activeCount_none {zn : Zone} (h : zn.active = none) : zn.activeCount = 0 := by simp [Zone.activeCount, h]

theorem Zone.activeCount_some {zn : Zone} {a : ActiveJob} (h : zn.active = some a) : zn.activeCount = 1 := by
  simp [Zone.activeCount, h]

theorem Zone.jobs_idle {zn : Zone} (h : zn.active = none) : zn.jobs = zn.queue := by simp [Zone.jobs, h]

theorem Zone.jobs_busy {zn : Zone} {a : ActiveJob} (h : zn.active = some a) : zn.jobs = a.job :: zn.queue := by
  simp [Zone.jobs, h]

/-- A zone with no job and no record, as a reset leaves it. -/
theorem Zone.Fits.of_empty {zn : Zone} (hq : zn.queue = []) (ha : zn.active = none) (hc : zn.completions = []) : zn.Fits :=
  ⟨by simp [hq], by simp [hc, Zone.activeCount_none ha], by simp [Zone.jobs_idle ha, hq]⟩

/-- The jobs of a zone change in nothing but what carries no tag. -/
theorem Zone.Within.of_active {new old : Zone} (hq : new.queue.map Job.tag = old.queue.map Job.tag)
    (hc : new.completions = old.completions)
    (ha : new.active.map (fun a => a.job.tag) = old.active.map fun a => a.job.tag) : new.Within old := by
  have hlen : new.queue.length = old.queue.length := by simpa using congrArg List.length hq
  have hsome : new.active.isSome = old.active.isSome := by simpa using congrArg Option.isSome ha
  have htags (zn : Zone) : zn.jobs.map Job.tag = (zn.active.map fun a => a.job.tag).toList ++ zn.queue.map Job.tag := by
    cases h : zn.active <;> simp [Zone.jobs, h]
  exact ⟨hlen.le, by rw [hc, Zone.activeCount, Zone.activeCount, hsome], by rw [htags, htags, ha, hq]⟩

/-- Only the queue changes, to one with fewer jobs. -/
theorem Zone.Within.of_queue {new old : Zone} (hq : new.queue.Sublist old.queue) (hc : new.completions = old.completions)
    (ha : new.active = old.active) : new.Within old :=
  ⟨hq.length_le, by rw [hc, Zone.activeCount, Zone.activeCount, ha],
    by rw [Zone.jobs, Zone.jobs, ha]; exact ((List.Sublist.refl _).append hq).map _⟩

/-- The active job leaves and one record comes (R26). -/
theorem Zone.Within.endJob {zn : Zone} {a : ActiveJob} (ha : zn.active = some a) (c : Completion) :
    Zone.Within { zn with active := none, completions := zn.completions ++ [c] } zn := by
  refine ⟨Nat.le_refl _, ?_, ?_⟩
  · simp [Zone.activeCount_some ha, Zone.activeCount_none]
  · rw [Zone.jobs_busy ha, Zone.jobs_idle rfl]
    exact (List.sublist_cons_self ..).map _

/-- What the activation condition of R35 asks for: no active job, and room for one more record. -/
theorem Zone.room_of_mayActivate {zn : Zone} (h : zn.mayActivate = true) :
    zn.active = none ∧ zn.completions.length + 1 ≤ 4 := by
  refine ⟨Zone.active_of_mayActivate h, ?_⟩
  simp only [Zone.mayActivate, Bool.and_eq_true, decide_eq_true_eq] at h
  exact h.2

/-- The head of the queue leaves and comes as the active job, or its record comes (R36, R37): the zone that may activate has
room for the record. -/
theorem Zone.Fits.of_activation {new old : Zone} (h : old.Fits) (hm : old.mayActivate = true) {j : Job} {rest : List Job}
    (hq : old.queue = j :: rest) (hqueue : new.queue = rest)
    (hnew : (new.active.map ActiveJob.job = some j ∧ new.completions = old.completions)
      ∨ (new.active = none ∧ new.completions.length = old.completions.length + 1)) : new.Fits := by
  obtain ⟨hidle, hroom⟩ := Zone.room_of_mayActivate hm
  have hlen := h.queue
  have htags := h.tags
  rw [Zone.jobs_idle hidle] at htags
  rw [hq] at hlen htags
  have hshort : new.queue.length ≤ 8 := hqueue ▸ (Nat.le_succ _).trans hlen
  rcases hnew with ⟨hactive, hrecords⟩ | ⟨hactive, hrecords⟩
  · obtain ⟨a, ha, rfl⟩ := Option.map_eq_some_iff.mp hactive
    exact ⟨hshort, by rw [hrecords, Zone.activeCount_some ha]; exact hroom, by rw [Zone.jobs_busy ha, hqueue]; exact htags⟩
  · refine ⟨hshort, by rw [hrecords, Zone.activeCount_none hactive]; exact hroom, ?_⟩
    rw [Zone.jobs_idle hactive, hqueue]
    exact htags.of_cons

/-- A job joins a queue that has room, with a tag that no live job carries (R33 checks 7 and 8). -/
theorem Zone.Fits.enqueue {zn : Zone} (h : zn.Fits) {j : Job} (hroom : zn.queue.length < 8)
    (htag : zn.tagInUse j.tag = false) : Zone.Fits { zn with queue := zn.queue ++ [j] } := by
  have hnew : ∀ k ∈ zn.jobs, k.tag ≠ j.tag := by
    rw [← Bool.not_eq_true, tagInUse_iff] at htag
    exact fun k hk he => htag ⟨k, hk, he⟩
  refine ⟨by simpa using hroom, h.records, ?_⟩
  have hjobs : Zone.jobs { zn with queue := zn.queue ++ [j] } = zn.jobs ++ [j] := (List.append_assoc ..).symm
  rw [hjobs, List.map_append, List.nodup_append]
  refine ⟨h.tags, List.nodup_singleton _, fun a ha b hb => ?_⟩
  obtain ⟨k, hk, rfl⟩ := List.mem_map.mp ha
  rw [List.mem_singleton.mp hb]
  exact hnew k hk

/-! ### The part within its capacities -/

/-- R23, R25 and R176 of the whole part. -/
structure Bounded (s : State) : Prop where
  zones : ∀ z, (s.zone z).Fits
  buffer : s.port.buffer.length ≤ 4

theorem bounded_iff (s : State) : Bounded s ↔ CapacityLaw s ∧ TagLaw s :=
  ⟨fun h => ⟨⟨fun z => ⟨(h.zones z).queue, (h.zones z).records⟩, h.buffer⟩, fun z => (h.zones z).tags⟩,
    fun ⟨hcap, htags⟩ => ⟨fun z => ⟨(hcap.1 z).1, (hcap.1 z).2, htags z⟩, hcap.2⟩⟩

/-- THE RULE. No zone gains a job or a record, and the request buffer stays. -/
theorem Bounded.of_within {s t : State} (h : Bounded s) (hz : ∀ z, (t.zone z).Within (s.zone z))
    (hp : t.port.buffer = s.port.buffer) : Bounded t :=
  ⟨fun z => (h.zones z).of_within (hz z), hp ▸ h.buffer⟩

/-- The zones and the request buffer stay. -/
theorem Bounded.of_fields {s t : State} (h : Bounded s) (hz : t.zones = s.zones) (hp : t.port.buffer = s.port.buffer) :
    Bounded t :=
  h.of_within (fun z => by rw [State.zone, hz]; exact .of_same rfl rfl rfl) hp

/-- One zone changes and fits. -/
theorem Bounded.change_zone {s t : State} (h : Bounded s) (z : Fin 8) (hz : (t.zone z).Fits)
    (hne : ∀ y, y ≠ z → t.zone y = s.zone y) (hp : t.port = s.port) : Bounded t := by
  refine ⟨fun y => ?_, hp ▸ h.buffer⟩
  by_cases hy : y = z
  · exact hy ▸ hz
  · exact hne y hy ▸ h.zones y

theorem Bounded.updZone {s : State} (h : Bounded s) (z : Fin 8) (f : Zone → Zone) (hf : (f (s.zone z)).Within (s.zone z)) :
    Bounded (s.updZone z f) :=
  h.change_zone z (by rw [State.zone_updZone_self]; exact (h.zones z).of_within hf) (fun y hy => by simp [hy]) rfl

/-- The zones are mapped by what gives none of them a job or a record. -/
theorem Bounded.mapZones {s t : State} (h : Bounded s) (f : Zone → Zone) (hf : ∀ zn, (f zn).Within zn)
    (hz : t.zones = mapVector f s.zones) (hp : t.port.buffer = s.port.buffer) : Bounded t :=
  h.of_within (fun z => by simpa [State.zone, hz] using hf _) hp

end Sys2Proof.Machine
end

section
/-! The operations of zones and jobs stay within the capacities. -/
namespace Sys2Proof.Machine

/-! ### The end of a job, activation, submission -/

theorem Bounded.endJob {s : State} (h : Bounded s) (z : Fin 8) (o : JobOutcome) (time : Word) :
    Bounded (s.endJob z o time) := by
  cases ha : (s.zone z).active with
  | none => simpa [State.endJob, ha] using h
  | some a =>
    refine h.change_zone z ?_ (fun y hy => State.zone_endJob_ne s o time hy) (State.endJob_port ..)
    rw [State.endJob_zone_self s z a ha]
    exact (h.zones z).of_within (.endJob ha _)

/-- R37: the records of the zone whose head job has become its active job. -/
theorem State.zone_beginWaiting_self (s : State) (z : Fin 8) (j : Job) (rest : List Job) :
    (s.beginWaiting z j rest).zone z = { (s.zone z).flip j.template (s.template j.template).toggled with
      queue := rest, active := some (j.activate (s.template j.template)) } :=
  State.zone_updZone_self s z fun zn => { zn.flip j.template (s.template j.template).toggled with
    queue := rest, active := some (j.activate (s.template j.template)) }

@[simp] theorem Zone.flip_completions (zn : Zone) (i : Fin 64) (toggled : Bool) :
    (zn.flip i toggled).completions = zn.completions := by
  unfold Zone.flip; split <;> rfl

theorem Bounded.activateHead {s : State} (h : Bounded s) (z : Fin 8) (hm : (s.zone z).mayActivate = true) :
    Bounded (s.activateHead z) := by
  unfold State.activateHead
  split
  · exact h
  · next j rest hq =>
    split
    · refine h.change_zone z ?_ (fun y hy => State.zone_beginWaiting_ne s j rest hy) (State.beginWaiting_port ..)
      rw [State.zone_beginWaiting_self]
      exact (h.zones z).of_activation hm hq rfl (.inl ⟨rfl, Zone.flip_completions ..⟩)
    · refine h.change_zone z ?_ (fun y hy => State.zone_endIncompatible_ne s j rest hy) (State.endIncompatible_port ..)
      have hidle := (Zone.room_of_mayActivate hm).1
      exact (h.zones z).of_activation hm hq (by simp [State.endIncompatible]) (.inr (by simp [State.endIncompatible, hidle]))

theorem Bounded.considerActivation {s : State} (h : Bounded s) (z : Fin 8) : Bounded (s.considerActivation z) := by
  unfold State.considerActivation
  induction (s.zone z).queue.length generalizing s with
  | zero => exact h
  | succ n ih =>
    unfold State.activations
    split
    · next hm => exact ih (h.activateHead z hm)
    · exact h

/-- What checks 7 and 8 of R33 leave: a tag that no live job carries, and room in the queue. -/
theorem State.room_of_judge {s : State} {z : Fin 8} {i : Fin 64} {n : Nat} {tag : Half}
    (h : s.judge z i n tag = none) : (s.zone z).tagInUse tag = false ∧ (s.zone z).queue.length < 8 := by
  unfold State.judge at h
  split at h
  · cases h
  split at h
  · cases h
  split at h
  · cases h
  split at h
  · cases h
  split at h
  · cases h
  split at h
  · cases h
  · next htag =>
    split at h
    · cases h
    · next hroom => exact ⟨by simpa using htag, Nat.lt_of_not_le hroom⟩

theorem Bounded.enqueue {s : State} (h : Bounded s) (z : Fin 8) {j : Job} {i : Fin 64} {n : Nat}
    (hj : s.judge z i n j.tag = none) : Bounded (s.enqueue z j) := by
  obtain ⟨htag, hroom⟩ := State.room_of_judge hj
  unfold State.enqueue
  refine Bounded.considerActivation (h.change_zone z ?_ (fun y hy => ?_) ?_) z
  · simpa using (h.zones z).enqueue hroom htag
  · simp [hy]
  · rfl

theorem Bounded.takeHead {s : State} (h : Bounded s) (z : Fin 8) : Bounded (s.takeHead z) := by
  refine Bounded.considerActivation (h.updZone z _ ⟨Nat.le_refl _, ?_, List.Sublist.refl _⟩) z
  simp only [List.length_tail]; exact Nat.add_le_add_right (Nat.sub_le ..) _

/-! ### Changes of a zone that give it no job and no record -/

theorem Bounded.updActive {s : State} (h : Bounded s) (z : Fin 8) (f : ActiveJob → ActiveJob)
    (hf : ∀ a, (f a).job.tag = a.job.tag) : Bounded (s.updActive z f) :=
  h.updZone z _ (.of_active rfl rfl (by cases (s.zone z).active <;> simp [hf]))

theorem Bounded.setPlay {s : State} (h : Bounded s) (z : Fin 8) (p : PlayState) : Bounded (s.setPlay z p) :=
  h.updActive z _ fun _ => rfl

theorem Bounded.startFrame {s : State} (h : Bounded s) (z : Fin 8) : Bounded (s.startFrame z) := by
  unfold State.startFrame
  split
  · exact h
  · next ha => exact h.updZone z _ (.of_active rfl rfl (by rw [ha]; rfl))

theorem Zone.Within.emit (zn : Zone) (now stop : Nat) : (zn.emit now stop).Within zn := by
  unfold Zone.emit; split <;> exact .of_same rfl rfl rfl

theorem Bounded.openGate {s : State} (h : Bounded s) (z : Fin 8) : Bounded (s.openGate z) := by
  unfold State.openGate
  split
  · exact h
  split
  · exact h
  split
  · exact h.updZone z _ (.emit ..)
  · exact h

theorem Bounded.closeGate {s : State} (h : Bounded s) (z : Fin 8) : Bounded (s.closeGate z) := h.updZone z _ (.of_same rfl rfl rfl)

theorem Bounded.cutOutput {s : State} (h : Bounded s) (z : Fin 8) : Bounded (s.cutOutput z) := h.updZone z _ (.of_same rfl rfl rfl)

theorem Bounded.gateMoved {s : State} (h : Bounded s) (z : Fin 8) (wasOpen : Bool) :
    Bounded (s.gateMoved z wasOpen) := by
  unfold State.gateMoved
  split
  · exact h
  split
  · exact h.closeGate z
  · exact h.openGate z

theorem Zone.Within.faulted (zn : Zone) (k : FaultKind) : (zn.faulted k).Within zn := by cases k <;> exact .of_same rfl rfl rfl

theorem Bounded.advance {s : State} (h : Bounded s) (instant : Nat) : Bounded (s.advance instant) := h.of_fields rfl rfl

/-! ### Playback, driver faults -/

theorem Bounded.driverFault {s : State} (h : Bounded s) (z : Fin 8) (k : FaultKind) : Bounded (s.driverFault z k) := by
  have ended := (h.cutOutput z).endJob z .fault s.timeBase
  exact (ended.updZone z (fun zn => zn.faulted k) (.faulted ..)).of_fields rfl rfl

theorem Bounded.sense {s : State} (h : Bounded s) (z : Fin 8) : Bounded (s.sense z) := by
  unfold State.sense
  split
  · split
    · exact h.driverFault z _
    · exact h
  · exact h

theorem Bounded.decideAgain {s : State} (h : Bounded s) (z : Fin 8) : Bounded (s.decideAgain z) := by
  unfold State.decideAgain
  split
  · exact h
  split
  · exact h
  split
  · exact h
  split
  · exact h
  · exact (h.endJob z _ _).considerActivation z

theorem Bounded.frameEnd {s : State} (h : Bounded s) (z : Fin 8) (a : ActiveJob) (p : PlayState) :
    Bounded (s.frameEnd z a p) := by
  unfold State.frameEnd
  split
  · exact (h.endJob z _ _).considerActivation z
  · dsimp only
    split
    · exact (h.setPlay z _).startFrame z
    split
    · exact (h.setPlay z _).startFrame z
    · exact h.setPlay z _

theorem Bounded.phaseOver {s : State} (h : Bounded s) (z : Fin 8) (a : ActiveJob) (p : PlayState) :
    Bounded (s.phaseOver z a p) := by
  unfold State.phaseOver
  split
  · exact h.setPlay z _
  · exact h.frameEnd z a p

theorem Bounded.phaseEnd {s : State} (h : Bounded s) (z : Fin 8) : Bounded (phaseEnd z s) := by
  unfold Machine.phaseEnd
  split
  · exact h
  split
  · exact h
  split
  · exact h
  · exact (((h.advance _).phaseOver z _ _).gateMoved z _).sense z

theorem Bounded.frameTimerExpiry {s : State} (h : Bounded s) (z : Fin 8) : Bounded (frameTimerExpiry z s) := by
  unfold Machine.frameTimerExpiry
  split
  · exact h
  split
  · exact h
  split
  · exact (((h.advance _).startFrame z).gateMoved z _).sense z
  · exact h

theorem Bounded.driverReport {s : State} (h : Bounded s) (z : Fin 8) (report : Condition) :
    Bounded (driverReport z report s) := by
  have k : Bounded { s with pins := { s.pins with zsense := s.pins.zsense.set z report } } := h.of_fields rfl rfl
  unfold Machine.driverReport
  dsimp only
  split
  · exact k
  · exact k.sense z

/-! ### The grant walk -/

theorem Bounded.grant {s : State} (h : Bounded s) (z : Fin 8) (binding : Option (Fin 4)) : Bounded (s.grant z binding) := by
  have k : Bounded { s with arbiter := s.arbiter.grant z (s.zone z).config.group } := h.of_fields rfl rfl
  exact ((k.updActive z (fun a => { a with binding := binding }) fun _ => rfl).startFrame z).gateMoved z false

theorem Bounded.visit {s : State} (h : Bounded s) (z : Fin 8) : Bounded (s.visit z) := by
  unfold State.visit
  split
  · exact h
  split
  · split
    · exact h.grant z none
    split
    · exact h
    · exact Bounded.grant (h.of_fields rfl rfl : Bounded (s.obtain _ _ z)) z _
  · exact h

theorem Bounded.slotBoundary {s : State} (h : Bounded s) : Bounded (slotBoundary s) := by
  have next : Bounded s.nextSlot := h.of_fields rfl rfl
  unfold Machine.slotBoundary
  split
  · exact h
  · have walked : Bounded (s.nextSlot.walk s.arbiter.waiting) :=
      List.foldlRecOn _ _ next fun _ k z _ => k.visit z
    exact List.foldlRecOn _ _ walked fun _ k z _ => k.sense z

/-! ### The halves of a generator -/

theorem Zone.Within.highBegins (g : Fin 4) (now stop : Nat) (zn : Zone) : (zn.highBegins g now stop).Within zn := by
  unfold Zone.highBegins; split
  · exact .emit ..
  · exact .of_same rfl rfl rfl

theorem Zone.Within.highEnds (g : Fin 4) (now : Nat) (zn : Zone) : (zn.highEnds g now).Within zn := by
  unfold Zone.highEnds; split <;> exact .of_same rfl rfl rfl

theorem Bounded.highHalfStart {s : State} (h : Bounded s) (g : Fin 4) : Bounded (highHalfStart g s) := by
  unfold Machine.highHalfStart
  split
  · split
    · exact h
    · exact h.mapZones _ (.highBegins g _ _) rfl rfl
  · exact h

theorem Bounded.highHalfEnd {s : State} (h : Bounded s) (owner : HalfOwner) : Bounded (highHalfEnd owner s) := by
  cases owner with
  | generator g =>
    simp only [Machine.highHalfEnd]
    split
    · split
      · exact h.mapZones _ (.highEnds g _) rfl rfl
      · exact h
    · exact h
  | driver z =>
    simp only [Machine.highHalfEnd]
    split
    · exact (h.advance _).cutOutput z
    · exact h

end Sys2Proof.Machine
end

section
/-! The requests and the events stay within the capacities, and so does every step. -/
namespace Sys2Proof.Machine

/-! ### Release, cancel and flush -/

theorem Bounded.releaseActive {s : State} (h : Bounded s) (z : Fin 8) : Bounded (s.releaseActive z) :=
  Bounded.decideAgain (h.updActive z (fun a => { a with job := { a.job with released := true } }) fun _ => rfl) z

theorem Bounded.releaseQueued {s : State} (h : Bounded s) (z : Fin 8) (tag : Half) : Bounded (s.releaseQueued z tag) := by
  refine h.updZone z _ (.of_active ?_ rfl rfl)
  have same (j : Job) : (if j.tag = tag then { j with released := true } else j).tag = j.tag := by split <;> rfl
  simp [Function.comp_def, same]

/-- The refusals of a release leave the state. -/
theorem State.releaseAgain_state (s : State) (z : Fin 8) (tag : Half) : (s.releaseAgain z tag).state = s := by
  unfold State.releaseAgain State.releaseLate
  repeat' split
  all_goals rfl

theorem Bounded.release {s : State} (h : Bounded s) (z : Fin 8) (tag : Half) : Bounded (s.release z tag).state := by
  unfold State.release
  split
  · exact h
  split
  · exact h.releaseActive z
  split
  · exact h.releaseQueued z tag
  · exact (s.releaseAgain_state z tag).symm ▸ h

theorem Bounded.cancelNow {s : State} (h : Bounded s) (z : Fin 8) : Bounded (s.cancelNow z) :=
  ((h.endJob z _ _).gateMoved z _).considerActivation z

theorem Bounded.cancelLater {s : State} (h : Bounded s) (z : Fin 8) : Bounded (s.cancelLater z) :=
  h.updActive z _ fun _ => rfl

theorem Bounded.cancelActive {s : State} (h : Bounded s) (z : Fin 8) (a : ActiveJob) (mode : CancelMode) :
    Bounded (s.cancelActive z a mode).state := by
  unfold State.cancelActive
  split
  · split
    · exact h
    · exact h.cancelLater z
  · exact h.cancelNow z

theorem Bounded.dropQueued {s : State} (h : Bounded s) (z : Fin 8) (j : Job) : Bounded (s.dropQueued z j) := by
  have left : Bounded (s.updZone z fun zn => { zn with queue := zn.queue.eraseP fun q => decide (q.tag = j.tag) }) :=
    h.updZone z _ (.of_queue List.eraseP_sublist rfl rfl)
  exact left.of_fields rfl rfl

theorem Bounded.jobCancel {s : State} (h : Bounded s) (zone : Byte) (tag : Half) (mode : Byte) :
    Bounded (jobCancel zone tag mode s).state := by
  unfold Machine.jobCancel
  split
  · split
    · exact h
    split
    · exact h.dropQueued ..
    · exact h.cancelActive ..
    · exact h
  · exact h

theorem Bounded.dropQueue {s : State} (h : Bounded s) (z : Fin 8) : Bounded (s.dropQueue z) := by
  have dropped : Bounded (s.dropUses (s.zone z).queue) := h.of_fields (by simp) (by simp)
  exact dropped.updZone z _ (.of_queue (List.nil_sublist _) rfl rfl)

theorem Bounded.zoneFlush {s : State} (h : Bounded s) (zone action : Byte) : Bounded (zoneFlush zone action s).state := by
  unfold Machine.zoneFlush State.flushActive
  split
  · next z _ _ _ =>
    have dropped := h.dropQueue z
    split
    · exact h
    dsimp only
    split
    · exact dropped
    split
    · exact dropped
    split
    · exact dropped.cancelLater z
    · exact dropped.cancelNow z
  · exact h

/-! ### FAULT CLEAR, ZONE RESET and the quiet time -/

theorem Bounded.faultClear {s : State} (h : Bounded s) (zone : Byte) : Bounded (faultClear zone s).state := by
  unfold Machine.faultClear
  split
  · exact h
  split
  · exact h
  split
  · exact h
  · exact (h.updZone _ (fun zn => { zn with condition := .normal }) (.of_same rfl rfl rfl)).considerActivation _

theorem Bounded.zoneReset {s : State} (h : Bounded s) (zone : Byte) : Bounded (zoneReset zone s).state := by
  unfold Machine.zoneReset
  split
  · exact h
  · next z _ =>
    split
    · exact h
    · have discarded : Bounded ((s.discardActive z).dropUses (s.zone z).queue) :=
        h.of_fields (by simp) (by simp)
      exact discarded.change_zone z (by simpa [accept, State.resetZone] using .of_empty rfl rfl rfl)
        (fun y hy => by simp [accept, State.resetZone, hy]) rfl

theorem Bounded.quietTimeExpiry {s : State} (h : Bounded s) (z : Fin 8) : Bounded (quietTimeExpiry z s) := by
  unfold Machine.quietTimeExpiry
  split
  · exact h
  · exact (h.advance _).updZone z (fun zn => { zn with quietEnd := none }) (.of_same rfl rfl rfl)

/-! ### Trigger lines -/

theorem Bounded.updLine {s : State} (h : Bounded s) (n : Fin 4) (f : Line → Line) : Bounded (s.updLine n f) :=
  h.of_fields rfl rfl

theorem Bounded.lineTo {s : State} (h : Bounded s) (n : Fin 4) (state : LineState) : Bounded (s.lineTo n state) :=
  h.updLine n _

theorem Bounded.lineSubmit {s : State} (h : Bounded s) (b : Binding) (n : Fin 4) (mode : JobMode) :
    Bounded (s.lineSubmit b n mode) := by
  unfold State.lineSubmit
  split
  · exact h.of_fields rfl rfl
  · next hj => exact h.enqueue _ hj

theorem Bounded.retrigger {s : State} (h : Bounded s) (b : Binding) (n : Fin 4) (repeats : Nat) :
    Bounded (s.retrigger b n repeats) := by
  unfold State.retrigger
  split
  · split
    · exact Bounded.decideAgain
        (h.updActive _ (fun a => { a with framesTarget := retriggerTarget a.framesStarted repeats }) fun _ => rfl) _
    · exact h
  split
  · exact h
  · exact h.lineSubmit b n _

theorem Bounded.rising {s : State} (h : Bounded s) (b : Binding) (n : Fin 4) : Bounded (s.rising b n) := by
  unfold State.rising
  split
  · exact (h.lineSubmit b n _).lineTo n _
  · exact (h.retrigger b n _).lineTo n _
  · exact (h.lineSubmit b n _).lineTo n _

theorem Bounded.falling {s : State} (h : Bounded s) (b : Binding) (n : Fin 4) : Bounded (s.falling b n) := by
  unfold State.falling
  split
  · exact (h.release b.zone b.tag).lineTo n _
  · exact h.lineTo n _
  · exact h.lineTo n _
  · exact h

theorem Bounded.takeLevel {s : State} (h : Bounded s) (n : Fin 4) (level : Bool) : Bounded (s.takeLevel n level) := by
  have k : Bounded (s.updLine n fun l => { l with taken := level, debounceEnd := none }) := h.updLine n _
  unfold State.takeLevel
  dsimp only
  split
  · exact k
  split
  · split
    · exact k.rising _ n
    · exact k
  · exact k.falling _ n

theorem Bounded.trigPinChange {s : State} (h : Bounded s) (n : Fin 4) (level : Bool) :
    Bounded (trigPinChange n level s) := by
  have k : Bounded { s with pins := { s.pins with trig := s.pins.trig.set n level } } := h.of_fields rfl rfl
  unfold Machine.trigPinChange State.pinMoved
  dsimp only
  split
  · exact k
  split
  · exact k.updLine n _
  split
  · exact k
  split
  · exact k.takeLevel n level
  · exact k.updLine n _

theorem Bounded.debounceExpiry {s : State} (h : Bounded s) (n : Fin 4) : Bounded (debounceExpiry n s) := by
  unfold Machine.debounceExpiry
  split
  · exact h
  split
  · exact (h.advance _).updLine n _
  · exact (h.advance _).takeLevel n _

theorem Bounded.unhold {s : State} (h : Bounded s) (n : Fin 4) : Bounded (s.unhold n) := by
  unfold State.unhold
  split
  · split
    · exact h.release _ _
    · exact h
  · exact h

theorem State.bind_port (s : State) (n : Fin 4) (new : Option Binding) : (s.bind n new).port = s.port := by
  cases hb : (s.line n).binding <;> cases new <;> simp [State.bind, hb]

theorem Bounded.rebind {s : State} (h : Bounded s) (n : Fin 4) (new : Option Binding) : Bounded (s.rebind n new).state := by
  obtain ⟨-, hzones, -⟩ := (s.unhold n).bind_fields n new
  exact (h.unhold n).of_fields hzones (congrArg _ (State.bind_port ..))

theorem Bounded.triggerBind {s : State} (h : Bounded s) (line : Byte) (record : Option BindingRecord) :
    Bounded (triggerBind line record s).state := by
  unfold Machine.triggerBind
  split
  · exact h
  · split
    · exact h
    · exact h.rebind _ none
  split
  · exact h
  split
  · exact h
  split
  · exact h
  · exact h.rebind _ _

/-! ### Requests of zones, notices and the library -/

theorem Bounded.zoneSetup {s : State} (h : Bounded s) (zone enabled bands group dark : Byte) :
    Bounded (zoneSetup zone enabled bands group dark s).state := by
  unfold Machine.zoneSetup
  split
  · dsimp only
    split
    · exact h
    · exact h.updZone _ (fun zn => { zn with config := _ }) (.of_same rfl rfl rfl)
  · exact h

theorem Bounded.zoneQuery {s : State} (h : Bounded s) (zone : Byte) : Bounded (zoneQuery zone s).state := by
  unfold Machine.zoneQuery
  split
  · exact h
  · exact h.updZone _ (fun zn => { zn with openSeen := false, overloadSeen := false }) (.of_same rfl rfl rfl)

theorem Bounded.jobSubmit {s : State} (h : Bounded s) (r : JobSubmitRecord) : Bounded (jobSubmit r s).state := by
  unfold Machine.jobSubmit
  split
  · split
    · exact h
    split
    · exact h
    · next hj => exact h.enqueue _ hj
  · exact h

theorem Bounded.jobRelease {s : State} (h : Bounded s) (zone : Byte) (tag : Half) :
    Bounded (jobRelease zone tag s).state := by
  unfold Machine.jobRelease
  split
  · exact h
  · exact h.release _ tag

theorem Bounded.completionTake {s : State} (h : Bounded s) (zone : Byte) : Bounded (completionTake zone s).state := by
  unfold Machine.completionTake
  split
  · exact h
  split
  · exact h
  · exact h.takeHead _

theorem Bounded.fetch {s : State} (h : Bounded s) (n : Source) (claimed : Bool) : Bounded (s.fetch n claimed).state := by
  unfold State.fetch
  split
  · exact h
  · have k : Bounded (s.deliver n) := by
      cases n with
      | zone z => exact h.takeHead z
      | engine | fault | link | capture | trigger => exact h.of_fields rfl rfl
    exact k.of_fields rfl rfl

theorem Bounded.noticeFetch {s : State} (h : Bounded s) (source : Option Byte) :
    Bounded (noticeFetch source s).state := by
  unfold Machine.noticeFetch
  split
  · split
    · exact h
    · exact h.fetch _ true
  split
  · exact h
  split
  · exact h.fetch _ _
  · exact h

/-- Clearing toggle bits changes no job and no record (R16). -/
theorem Bounded.clearToggles {s : State} (h : Bounded s) (i : Fin 64) : Bounded (s.clearToggles i) :=
  h.mapZones (fun zn => { zn with toggles := zn.toggles.set i false }) (fun _ => .of_same rfl rfl rfl) rfl rfl

theorem Bounded.templateCommit {s : State} (h : Bounded s) : Bounded (templateCommit s).state := by
  unfold Machine.templateCommit
  split
  · exact h
  split
  · exact h
  split
  · exact h
  split
  · exact h
  · next st _ _ _ _ _ => exact (h.clearToggles st.target).of_fields rfl rfl

theorem Bounded.templateDelete {s : State} (h : Bounded s) (index : Byte) : Bounded (templateDelete index s).state := by
  unfold Machine.templateDelete
  split
  · exact h
  split
  · exact h
  split
  · exact h
  · next i _ _ _ => exact (h.clearToggles i).of_fields rfl rfl

theorem Bounded.setStaging {s : State} (h : Bounded s) (staging : Option Staging) : Bounded (s.setStaging staging) :=
  h.of_fields rfl rfl

theorem Bounded.templateBegin {s : State} (h : Bounded s) (index : Byte) (header : TemplateHeader) :
    Bounded (templateBegin index header s).state := by
  unfold Machine.templateBegin
  split
  · exact h
  split
  · exact h.setStaging _
  · exact h

theorem Bounded.templateAppend {s : State} (h : Bounded s) (selector : Byte) (records : List ElementRecord) :
    Bounded (templateAppend selector records s).state := by
  unfold Machine.templateAppend
  split
  · exact h
  split
  · split
    · exact h.setStaging _
    · exact h
  · exact h

theorem Bounded.templateAbandon {s : State} (h : Bounded s) : Bounded (templateAbandon s).state := by
  unfold Machine.templateAbandon
  split
  · exact h.setStaging _
  · exact h

/-! The requests that change another block alone. -/

theorem Bounded.slotPlan {s : State} (h : Bounded s) (length : Half) (masks : Vector Half 8) :
    Bounded (slotPlan length masks s).state := by
  unfold Machine.slotPlan
  split
  · exact h
  · exact h.of_fields rfl rfl

theorem Bounded.captureArm {s : State} (h : Bounded s) (source zone : Byte) (startTimeout endGap maxEntries : Half) :
    Bounded (captureArm source zone startTimeout endGap maxEntries s).state := by
  unfold Machine.captureArm
  split
  · exact h
  split
  · exact h
  split
  · exact h
  · exact h.of_fields rfl rfl

theorem Bounded.noticeAck {s : State} (h : Bounded s) (source : Option Byte) : Bounded (noticeAck source s).state := by
  unfold Machine.noticeAck
  repeat' split
  all_goals exact h.of_fields rfl rfl

theorem Bounded.noticeSetup {s : State} (h : Bounded s) (threshold : Byte) (entries : List SourceEntry) :
    Bounded (noticeSetup threshold entries s).state := by
  unfold Machine.noticeSetup
  split
  · split <;> exact h.of_fields rfl rfl
  · exact h

theorem Bounded.answer {s : State} (h : Bounded s) (r : Request) : Bounded (answer r s).state := by
  cases r with
  | templateCommit => exact h.templateCommit
  | templateDelete index => exact h.templateDelete index
  | templateBegin index header => exact h.templateBegin index header
  | templateAppend selector elements => exact h.templateAppend selector elements
  | templateAbandon => exact h.templateAbandon
  | zoneSetup zone enabled bands group dark => exact h.zoneSetup zone enabled bands group dark
  | zoneQuery zone => exact h.zoneQuery zone
  | zoneReset zone => exact h.zoneReset zone
  | faultClear zone => exact h.faultClear zone
  | jobSubmit record => exact h.jobSubmit record
  | jobRelease zone tag => exact h.jobRelease zone tag
  | jobCancel zone tag mode => exact h.jobCancel zone tag mode
  | zoneFlush zone action => exact h.zoneFlush zone action
  | completionTake zone => exact h.completionTake zone
  | triggerBind line binding => exact h.triggerBind line binding
  | noticeFetch source => exact h.noticeFetch source
  | slotPlan length masks => exact h.slotPlan length masks
  | captureArm source zone startTimeout endGap maxEntries => exact h.captureArm source zone startTimeout endGap maxEntries
  | captureStop => exact h.of_fields rfl rfl
  | noticeAck source => exact h.noticeAck source
  | noticeSetup threshold entries => exact h.noticeSetup threshold entries
  | templateQuery index offset => exact (templateQuery_state index offset s).symm ▸ h
  | slotQuery selector => exact (slotQuery_state selector s).symm ▸ h
  | triggerQuery line => exact (triggerQuery_state line s).symm ▸ h
  | captureRead offset count => exact (captureRead_state offset count s).symm ▸ h
  | libraryQuery | carrierQuery | timeQuery | captureQuery | noticePeek | identify | engineReset => exact h

/-! ### The port -/

theorem Bounded.startReply {s : State} (h : Bounded s) (code : Byte) (r : Reply) : Bounded (s.startReply code r) :=
  h.of_fields rfl rfl

/-- A port update that leaves the request buffer. -/
theorem Bounded.setPort {s : State} (h : Bounded s) (p : Port) (hp : p.buffer = s.port.buffer) : Bounded (s.setPort p) :=
  h.of_fields rfl hp

theorem Bounded.setBuffer {s : State} (h : Bounded s) {buffer : List (List Byte)} (hroom : buffer.length ≤ 4) :
    Bounded (s.setBuffer buffer) := ⟨h.zones, hroom⟩

theorem Bounded.handle {s : State} (h : Bounded s) (seq : Byte) (r : Request) : Bounded (s.handle seq r) := by
  unfold State.handle
  split
  · exact (h.answer r).startReply _ _
  · exact h.startReply _ _

theorem Bounded.handleBody {s : State} (h : Bounded s) (body : List Byte) : Bounded (s.handleBody body) := by
  unfold State.handleBody
  split
  · split
    · exact h.handle _ _
    · exact h.startReply _ _
    · exact h.startReply _ _
  · exact h

theorem Bounded.takeRequest {s : State} (h : Bounded s) : Bounded s.takeRequest := by
  unfold State.takeRequest
  split
  · exact h
  split
  · exact h
  · next body rest hbuffer =>
    have hlen := h.buffer
    rw [hbuffer] at hlen
    exact (h.setBuffer ((Nat.le_succ _).trans hlen)).handleBody body

/-- A frame joins the buffer only where it has room (R176). -/
theorem Bounded.offer {s : State} (h : Bounded s) (body : List Byte) : Bounded (s.offer body) := by
  unfold State.offer
  split
  · next hroom => exact (h.setBuffer (by simpa using hroom)).takeRequest
  · exact h.of_fields rfl rfl

theorem Bounded.request {s : State} (h : Bounded s) (seq : Byte) (r : Request) : Bounded (s.request seq r) := by
  unfold State.request
  split
  · exact h
  split
  · exact h.handle seq r
  · exact h.offer _

theorem Bounded.assemble {s : State} (h : Bounded s) (b : Byte) : Bounded (s.assemble b) := by
  unfold State.assemble
  split
  · split
    · exact h.setPort _ rfl
    · exact h
  · unfold State.lengthByte; split <;> exact h.of_fields rfl rfl
  · exact h.setPort _ rfl
  · exact h.setPort _ rfl
  · unfold State.lastByte
    split
    · exact (h.setPort s.port.hunt rfl).offer _
    · exact h.of_fields rfl rfl

theorem Bounded.receiveByte {s : State} (h : Bounded s) (data : Byte) (edge : CharEdge) :
    Bounded (receiveByte data edge s) := by
  have idle : Bounded s.rxdIdle := h.of_fields rfl rfl
  unfold Machine.receiveByte
  split
  · exact h.of_fields rfl rfl
  split
  · exact idle
  · exact (idle.assemble data).setPort _ rfl

/-! ### Reset -/

/-- No job, no record and no frame, as a reset leaves the part. -/
theorem Bounded.of_reset {s : State} (hz : ∀ z, ∃ strap, s.zone z = Zone.reset strap) (hp : s.port.buffer = []) :
    Bounded s := by
  refine ⟨fun z => ?_, by simp [hp]⟩
  obtain ⟨strap, hreset⟩ := hz z
  exact hreset ▸ .of_empty rfl rfl rfl

theorem Bounded.beginReset (s : State) (cause : ResetCause) : Bounded (s.beginReset cause) :=
  .of_reset (fun z => ⟨(s.zone z).config.strap, by simp [State.beginReset, State.zone]⟩) rfl

theorem Bounded.release? {s : State} (h : Bounded s) : Bounded s.release? := by
  unfold State.release?
  split
  · exact h
  · next cause _ =>
    have released : Bounded (State.released s.pins cause s.freeCount s.pending) :=
      .of_reset (fun z => ⟨_, State.zone_released ..⟩) rfl
    exact released.of_fields rfl rfl

theorem Bounded.supplyRise {s : State} (h : Bounded s) : Bounded (supplyRise s) := by
  unfold Machine.supplyRise
  split
  · exact (Bounded.beginReset s .power).of_fields rfl rfl
  · exact h

theorem Bounded.supplyStable {s : State} (h : Bounded s) : Bounded (supplyStable s) := by
  have k : Bounded { s with supply := .stable } := h.of_fields rfl rfl
  unfold Machine.supplyStable
  split
  · dsimp only
    split
    · exact k.release?
    · exact k
  · exact h

theorem Bounded.supplyFailure {s : State} (h : Bounded s) : Bounded (supplyFailure s) := by
  unfold Machine.supplyFailure
  split
  · exact h
  · exact (Bounded.beginReset s .power).of_fields rfl rfl

theorem Bounded.resetNLow {s : State} (h : Bounded s) : Bounded (resetNLow s) := by
  unfold Machine.resetNLow
  dsimp only
  split
  · exact Bounded.beginReset _ _
  · exact h.of_fields rfl rfl

theorem Bounded.resetNHigh {s : State} (h : Bounded s) : Bounded (resetNHigh s) := by
  have k : Bounded { s with pins := { s.pins with resetN := true } } := h.of_fields rfl rfl
  unfold Machine.resetNHigh
  dsimp only
  split
  · exact k.release?
  · exact k

theorem Bounded.requestResetExpiry {s : State} (h : Bounded s) : Bounded (requestResetExpiry s) := by
  unfold Machine.requestResetExpiry
  split
  · exact (h.advance _).release?
  · exact h

theorem Bounded.replySent {s : State} (h : Bounded s) : Bounded (replySent s) := by
  unfold Machine.replySent
  split
  · exact h
  split
  · exact Bounded.beginReset _ _
  · exact Bounded.takeRequest (h.of_fields rfl rfl)

theorem Bounded.gapTimerExpiry {s : State} (h : Bounded s) : Bounded (gapTimerExpiry s) := by
  unfold Machine.gapTimerExpiry
  split
  · exact h
  split
  · exact h
  · exact h.of_fields rfl rfl

/-! ### Capture -/

theorem Bounded.putSession {s : State} (h : Bounded s) (c : Session) : Bounded (s.putSession c) := by
  unfold State.putSession
  split <;> exact h.of_fields rfl rfl

theorem Bounded.capdEdge {s : State} (h : Bounded s) (level : Bool) : Bounded (capdEdge level s) := by
  have k : Bounded { s with pins := { s.pins with capd := level } } := h.of_fields rfl rfl
  unfold Machine.capdEdge
  dsimp only
  split
  · exact k
  split
  · exact k
  split
  · exact k.putSession _
  · exact k

theorem Bounded.moveInput {s : State} (h : Bounded s) (input : EdgeInput) (level : Bool) :
    Bounded (s.moveInput input level) := by
  cases input with
  | capc => exact h.of_fields rfl rfl
  | loopback => exact h

theorem Bounded.captureRisingEdge {s : State} (h : Bounded s) (input : EdgeInput) :
    Bounded (captureRisingEdge input s) := by
  have k := h.moveInput input true
  unfold Machine.captureRisingEdge
  dsimp only
  split
  · exact k
  split
  · exact k.putSession _
  · exact k

theorem Bounded.captureFallingEdge {s : State} (h : Bounded s) (input : EdgeInput) :
    Bounded (captureFallingEdge input s) := by
  have k := h.moveInput input false
  unfold Machine.captureFallingEdge
  dsimp only
  split
  · exact k
  split
  · exact k.putSession _
  · exact k

theorem Bounded.markEndTimeout {s : State} (h : Bounded s) : Bounded (markEndTimeout s) := by
  unfold Machine.markEndTimeout
  split
  · exact h
  split
  · split
    · exact h
    · exact (h.advance _).putSession _
  · exact h

theorem Bounded.initialSpaceRecognised {s : State} (h : Bounded s) : Bounded (initialSpaceRecognised s) := by
  unfold Machine.initialSpaceRecognised
  repeat' split
  all_goals exact h.of_fields rfl rfl

theorem Bounded.startTimeoutExpiry {s : State} (h : Bounded s) : Bounded (startTimeoutExpiry s) := by
  unfold Machine.startTimeoutExpiry
  repeat' split
  all_goals exact h.of_fields rfl rfl

theorem Bounded.endGapExpiry {s : State} (h : Bounded s) : Bounded (endGapExpiry s) := by
  unfold Machine.endGapExpiry
  repeat' split
  all_goals exact h.of_fields rfl rfl

theorem Bounded.stuckMark {s : State} (h : Bounded s) : Bounded (stuckMark s) := by
  unfold Machine.stuckMark
  repeat' split
  all_goals exact h.of_fields rfl rfl

/-! ### Every command and every step -/

/-- Every command answers a next state within the capacities. -/
theorem Bounded.exec {s : State} (h : Bounded s) (c : Instr) : ∃ t, exec c s = .next t ∧ Bounded t := by
  cases hc : requestOf c with
  | some qr => exact ⟨_, exec_request hc s, h.request _ _⟩
  | none =>
    cases c with
    | receiveByte data edge => exact ⟨_, rfl, h.receiveByte data edge⟩
    | gapTimerExpiry => exact ⟨_, rfl, h.gapTimerExpiry⟩
    | replySent => exact ⟨_, rfl, h.replySent⟩
    | supplyRise => exact ⟨_, rfl, h.supplyRise⟩
    | supplyStable => exact ⟨_, rfl, h.supplyStable⟩
    | supplyFailure => exact ⟨_, rfl, h.supplyFailure⟩
    | resetNLow => exact ⟨_, rfl, h.resetNLow⟩
    | resetNHigh => exact ⟨_, rfl, h.resetNHigh⟩
    | requestResetExpiry => exact ⟨_, rfl, h.requestResetExpiry⟩
    | slotBoundary => exact ⟨_, rfl, h.slotBoundary⟩
    | phaseEnd z => exact ⟨_, rfl, h.phaseEnd z⟩
    | frameTimerExpiry z => exact ⟨_, rfl, h.frameTimerExpiry z⟩
    | quietTimeExpiry z => exact ⟨_, rfl, h.quietTimeExpiry z⟩
    | driverFault z report => exact ⟨_, rfl, h.driverReport z report⟩
    | trigPinChange line level => exact ⟨_, rfl, h.trigPinChange line level⟩
    | debounceExpiry line => exact ⟨_, rfl, h.debounceExpiry line⟩
    | capdEdge level => exact ⟨_, rfl, h.capdEdge level⟩
    | captureRisingEdge input => exact ⟨_, rfl, h.captureRisingEdge input⟩
    | captureFallingEdge input => exact ⟨_, rfl, h.captureFallingEdge input⟩
    | markEndTimeout => exact ⟨_, rfl, h.markEndTimeout⟩
    | startTimeoutExpiry => exact ⟨_, rfl, h.startTimeoutExpiry⟩
    | endGapExpiry => exact ⟨_, rfl, h.endGapExpiry⟩
    | stuckMark => exact ⟨_, rfl, h.stuckMark⟩
    | highHalfStart g => exact ⟨_, rfl, h.highHalfStart g⟩
    | highHalfEnd owner => exact ⟨_, rfl, h.highHalfEnd owner⟩
    | initialSpaceRecognised => exact ⟨_, rfl, h.initialSpaceRecognised⟩
    | _ => cases hc

theorem Bounded.idle {s : State} (h : Bounded s) : Bounded s.idle := by
  unfold State.idle State.choose
  repeat' split
  all_goals exact h.of_fields rfl rfl

theorem Bounded.step {s t : State} (h : Bounded s) (hstep : step s = .next t) : Bounded t := by
  unfold Machine.step at hstep
  split at hstep
  · cases hstep; exact h.idle
  · next c rest _ =>
    have k : Bounded { s with pending := rest } := h.of_fields rfl rfl
    obtain ⟨u, hu, hbounded⟩ := k.exec c
    rw [hu] at hstep
    cases hstep
    exact hbounded

/-- Settles O57: the two laws are one predicate of each zone and of the buffer, and every step keeps it. -/
theorem stepKeepsCapacitiesAndTags : Obligations.StepKeepsCapacitiesAndTags := by
  intro s t hcap htags hstep
  have h : Bounded s := (bounded_iff s).mpr ⟨hcap, htags⟩
  exact (bounded_iff t).mp (h.step hstep)

end Sys2Proof.Machine
end

section
/-!
Zones, jobs and completions (R26, R28 to R43): what activation and the end of a job do, what each request of a zone answers,
then the statements.
-/
namespace Sys2Proof.Machine

/-! ### Activation (R35 to R37) -/

/-- R35. -/
theorem Zone.mayActivate_iff (zn : Zone) : zn.mayActivate = true ↔
    zn.config.enabled = true ∧ zn.active = none ∧ zn.condition = .normal ∧ zn.quietEnd = none ∧ zn.queue ≠ []
      ∧ zn.completions.length < 4 := by
  simp [Zone.mayActivate, Config.completionCapacity, and_assoc]

theorem State.activations_of_not_mayActivate {s : State} {z : Fin 8} (h : (s.zone z).mayActivate = false) (n : Nat) :
    State.activations n z s = s := by
  cases n <;> simp [State.activations, h]

theorem State.considerActivation_of_not_mayActivate {s : State} {z : Fin 8} (h : (s.zone z).mayActivate = false) :
    s.considerActivation z = s :=
  State.activations_of_not_mayActivate h _

/-- A test that succeeds activates the head job, and the jobs behind it bound the tests that are left. -/
theorem State.considerActivation_cons {s : State} {z : Fin 8} {j : Job} {rest : List Job}
    (h : (s.zone z).mayActivate = true) (hq : (s.zone z).queue = j :: rest) :
    s.considerActivation z = State.activations rest.length z (s.activateHead z) := by
  simp [State.considerActivation, State.activations, hq, h]

/-- R37: the job that waits ends the activations of the event. -/
theorem State.considerActivation_effective {s : State} {z : Fin 8} {j : Job} {rest : List Job}
    (h : (s.zone z).mayActivate = true) (hq : (s.zone z).queue = j :: rest)
    (hband : (s.zone z).config.effective.has (s.template j.template).band = true) :
    s.considerActivation z = s.beginWaiting z j rest := by
  rw [State.considerActivation_cons h hq, State.activateHead, hq]
  simp only [hband, if_true]
  refine State.activations_of_not_mayActivate ?_ _
  rw [State.zone_beginWaiting_self]
  simp [Zone.mayActivate]

/-- R36: the job that is not played leaves its place to the next. -/
theorem State.considerActivation_incompatible {s : State} {z : Fin 8} {j : Job} {rest : List Job}
    (h : (s.zone z).mayActivate = true) (hq : (s.zone z).queue = j :: rest)
    (hband : (s.zone z).config.effective.has (s.template j.template).band = false) :
    s.considerActivation z = (s.endIncompatible z j rest).considerActivation z := by
  have hrest : ((s.endIncompatible z j rest).zone z).queue = rest := by simp [State.endIncompatible]
  rw [State.considerActivation_cons h hq, State.activateHead, hq, State.considerActivation, hrest]
  simp [hband]

/-- R37, R39: every field that an activation changes. -/
theorem State.beginWaiting_eq (s : State) (z : Fin 8) (j : Job) (rest : List Job) :
    s.beginWaiting z j rest = { s with
      zones := s.zones.set z { s.zone z with
        queue := rest
        toggles := if Element.toggle ∈ (s.template j.template).main ++ (s.template j.template).rep then
          (s.zone z).toggles.set j.template (!(s.zone z).toggles[j.template]) else (s.zone z).toggles
        active := some (j.activate (s.template j.template)) }
      arbiter := { s.arbiter with waiting := s.arbiter.waiting ++ [z] } } := by
  have hflip : (s.zone z).flip j.template (s.template j.template).toggled = { s.zone z with
      toggles := if Element.toggle ∈ (s.template j.template).main ++ (s.template j.template).rep then
        (s.zone z).toggles.set j.template (!(s.zone z).toggles[j.template]) else (s.zone z).toggles } := by
    rw [Zone.flip, toggled_iff]
    split <;> simp_all
  simp only [State.beginWaiting, State.updZone, State.setZone, hflip]

/-- Settles O25: one test of the condition, by what becomes of the head job. -/
theorem activationTakesHead : Obligations.ActivationTakesHead := by
  intro z s
  refine ⟨_, rfl, fun hnot => ?_, fun j rest henabled hidle hnormal hquiet hq hroom => ?_⟩
  · exact State.considerActivation_of_not_mayActivate (by rwa [← Bool.not_eq_true, Zone.mayActivate_iff])
  have hmay : (s.zone z).mayActivate = true :=
    (Zone.mayActivate_iff _).mpr ⟨henabled, hidle, hnormal, hquiet, by simp [hq], hroom⟩
  refine ⟨_, rfl, fun hband => ?_, fun hband => ⟨_, rfl, State.considerActivation_incompatible hmay hq hband⟩⟩
  rw [State.considerActivation_effective hmay hq hband, State.beginWaiting_eq]
  obtain ⟨tag, template, mode, payload, origin, released⟩ := j
  rcases mode with n | (_ | o) <;> rfl

/-! ### The end of a job (R26, R50, R51, R55, R70, R7) -/

theorem State.generator_releaseBinding (s : State) (z : Fin 8) (b : Option (Fin 4)) (g : Fin 4) :
    (s.releaseBinding z b).generator g = if b = some g then (s.generator g).release z else s.generator g := by
  cases b with
  | none => rfl
  | some k =>
    simp only [State.releaseBinding, State.generator_setGenerator, Option.some.injEq, eq_comm (a := g)]
    split
    · next h => rw [h]
    · rfl

/-- What becomes of the part when a zone's active job ends: every field that changes. -/
theorem State.endJob_eq {s : State} {z : Fin 8} {a : ActiveJob} (ha : (s.zone z).active = some a) (outcome : JobOutcome)
    (time : Word) :
    s.endJob z outcome time = { s with
      zones := s.zones.set z { s.zone z with
        active := none, completions := (s.zone z).completions ++ [a.record outcome time] }
      arbiter := { s.arbiter with
        waiting := s.arbiter.waiting.filter fun w => decide (w ≠ z)
        locks := mapVector (fun l => if l = some z then none else l) s.arbiter.locks }
      generators := (s.releaseBinding z a.binding).generators
      library := { s.library with
        slots := s.library.slots.set a.job.template
          ⟨(s.slot a.job.template).template, (s.slot a.job.template).useCount - 1⟩ } } := by
  rw [State.endJob, ha]
  obtain ⟨job, framesStarted, framesTarget, cancelAfterFrame, firstFrameStart, binding, play⟩ := a
  cases binding <;> rfl

/-- Settles O27: the record, then place, lock, carrier and claim given back. -/
theorem endedJobGivesEverythingBack : Obligations.EndedJobGivesEverythingBack := by
  intro z a outcome time s ha
  refine ⟨_, (State.endJob_eq ha outcome time).symm, rfl, rfl, rfl, rfl, fun g => ?locks, fun g => ?generators, rfl⟩
  case locks => simp
  case generators => exact State.generator_releaseBinding s z a.binding g

/-! ### ZONE SETUP (R29) -/

theorem setupDefined_of_setupFields? {enabled bands group dark : Byte} {f : SetupFields}
    (h : setupFields? enabled bands group dark = some f) : SetupDefined enabled bands group dark := by
  unfold setupFields? at h
  split at h
  · next he hb hg hd =>
    exact ⟨(yesNo_defined _).mp (by simp [he]), (bandSet_defined _).mp (by simp [hb]), (group_defined _).mp (by simp [hg]),
      (yesNo_defined _).mp (by simp [hd])⟩
  · cases h

/-- A present field is what its byte reads, an absent one leaves what stood there. -/
theorem getD_ite_none {α : Type} (c : Prop) [Decidable c] (x y : α) :
    (if c then none else some x).getD y = if c then y else x := by split <;> rfl

/-- The fields that the bytes stand for give the configuration of R29. -/
theorem setupFields?_apply {enabled bands group dark : Byte} (h : SetupDefined enabled bands group dark) :
    ∃ f, setupFields? enabled bands group dark = some f
      ∧ ∀ c : ZoneConfig, c.apply f = configAfter c enabled bands group dark := by
  obtain ⟨he, hb, hg, hd⟩ := h
  refine ⟨_, by rw [setupFields?, yesNo_read _ he, bandSet_read _ hb, group_read _ hg, yesNo_read _ hd], fun c => ?_⟩
  simp only [ZoneConfig.apply, configAfter, getD_ite_none]

/-- R29 checks 2 and 3: a change that a live job holds back. -/
theorem Zone.setupBusy_iff (zn : Zone) (c : ZoneConfig) : zn.setupBusy c = true ↔
    zn.config.enabled = true ∧ c.enabled = false ∧ (zn.active ≠ none ∨ zn.queue ≠ [])
      ∨ (c.group ≠ zn.config.group ∨ c.dark ≠ zn.config.dark) ∧ zn.active ≠ none := by
  simp only [Zone.setupBusy, Bool.or_eq_true, Bool.and_eq_true, decide_eq_true_eq, Bool.not_eq_true', Bool.and_eq_false_iff,
    Option.isNone_eq_false_iff, List.isEmpty_eq_false_iff, Option.isSome_iff_ne_none, and_assoc]

theorem zoneSetup_refused {zone enabled bands group dark : Byte}
    (hbad : 8 ≤ zone.toNat ∨ ¬ SetupDefined enabled bands group dark) (s : State) :
    zoneSetup zone enabled bands group dark s = refuse s .badField := by
  unfold zoneSetup
  split
  · next z f hz hf =>
    have hlt : zone.toNat < 8 := index?_eq_some.mp hz ▸ z.isLt
    exact absurd (setupDefined_of_setupFields? hf) (hbad.resolve_left (by omega))
  · rfl

/-- A ZONE SETUP of defined fields: what a live job holds back, then all present fields at once. -/
theorem zoneSetup_defined {enabled bands group dark : Byte} (h : SetupDefined enabled bands group dark) (z : Fin 8)
    (s : State) {c : ZoneConfig} (hc : c = configAfter (s.zone z).config enabled bands group dark) :
    zoneSetup (byteOf z) enabled bands group dark s =
      if (s.zone z).setupBusy c then refuseWith s .busy (.zoneBusy (s.zone z).state (s.zone z).queue.length)
      else accept { s with zones := s.zones.set z { s.zone z with config := c } }
        (.zoneSetup c c.effective { s.zone z with config := c }.state) := by
  obtain ⟨f, hf, happly⟩ := setupFields?_apply h
  simp only [zoneSetup, index?_byteOf_8, hf, happly, State.zone_updZone_self, hc]
  rfl

/-- Settles O22: the checks of R29 in order, and the configuration that it leaves. -/
theorem zoneSetupAppliesTogether : Obligations.ZoneSetupAppliesTogether := by
  intro q enabled bands group dark s hs
  refine ⟨fun zone hbad => exec_answer (.zoneSetup zone enabled bands group dark) rfl rfl hs (zoneSetup_refused hbad s),
    fun z h => ⟨_, _, rfl, rfl, fun hbusy => ?_, fun hdisable hmove => ?_⟩⟩
  · exact exec_answer (.zoneSetup (byteOf z) enabled bands group dark) rfl rfl hs
      ((zoneSetup_defined h z s rfl).trans (if_pos ((Zone.setupBusy_iff ..).mpr hbusy)))
  · have hfree : ¬ (s.zone z).setupBusy (configAfter (s.zone z).config enabled bands group dark) = true := by
      rw [Zone.setupBusy_iff]
      rintro (⟨hon, hoff, hjob⟩ | ⟨hchange, hactive⟩)
      · obtain ⟨hactive, hqueue⟩ := hdisable hon hoff
        exact hjob.elim (· hactive) (· hqueue)
      · exact hactive (hmove hchange)
    exact exec_answer (.zoneSetup (byteOf z) enabled bands group dark) rfl rfl hs
      ((zoneSetup_defined h z s rfl).trans (if_neg hfree))

/-! ### COMPLETION TAKE (R40) -/

/-- The head record leaves, and the activation condition is tested. -/
theorem State.takeHead_cons {s : State} {z : Fin 8} {record : Completion} {rest : List Completion}
    (h : (s.zone z).completions = record :: rest) :
    s.takeHead z = { s with zones := s.zones.set z { s.zone z with completions := rest } }.considerActivation z := by
  rw [State.takeHead, State.updZone, State.setZone, h]; rfl

/-- Settles O26: the zone, then the head record. -/
theorem completionTakeReturnsHead : Obligations.CompletionTakeReturnsHead := by
  intro q s hs
  refine ⟨fun zone hzone => ?_, fun z => ⟨fun hnone => ?_, fun record rest hrecords => ⟨_, rfl, ?_⟩⟩⟩
  · have ha : completionTake zone s = refuse s .badField := by simp [completionTake, index?_eq_none hzone]
    exact exec_answer (.completionTake zone) rfl rfl hs ha
  · have ha : completionTake (byteOf z) s = refuse s .nothingPending := by simp [completionTake, hnone]
    exact exec_answer (.completionTake (byteOf z)) rfl rfl hs ha
  · have ha : completionTake (byteOf z) s =
        accept (s.takeHead z) (.completion record rest.length ((s.takeHead z).zone z).state) := by
      simp [completionTake, hrecords]
    rw [← State.takeHead_cons hrecords]
    exact exec_answer (.completionTake (byteOf z)) rfl rfl hs ha

/-! ### ZONE QUERY (R42, R43, R31, R28, R2) -/

theorem bandOf_eq_headerBand (h : TemplateHeader) : bandOf h = headerBand h := by
  by_cases hnone : h.carrierHigh = 0 ∧ h.carrierLow = 0
  · simp [bandOf, carrierOf, headerBand, hnone]
  · simp only [bandOf, carrierOf, headerBand, if_neg hnone]
    rfl

theorem ZoneConfig.effective_eq (c : ZoneConfig) : c.effective =
    { baseband := c.hostBands.baseband && decide (c.strap = .wired), lf := c.hostBands.lf
      hf := c.hostBands.hf && decide (c.strap = .ir) } := by
  cases hs : c.strap <;> simp [ZoneConfig.effective, hs, StrapClass.bands]

/-- The state that a zone's records give is a state it is in (R31). -/
theorem Zone.stateHolds_state (zn : Zone) : StateHolds zn zn.state := by
  unfold Zone.state
  split
  · next hquiet => exact Option.isSome_iff_ne_none.mp hquiet
  next hquiet =>
  have hquiet : zn.quietEnd = none := by simpa using hquiet
  split
  · next hoff => exact ⟨hquiet, by simpa using hoff⟩
  next hon =>
  have hon : zn.config.enabled = true := by simpa using hon
  split
  · next a ha =>
    unfold ActiveJob.state
    split
    · next hp => exact ⟨hquiet, hon, a, ha, hp⟩
    next p hp =>
    split
    · next hphase =>
      obtain ⟨phase, hphase⟩ := Option.isSome_iff_exists.mp hphase
      exact ⟨hquiet, hon, a, p, phase, ha, hp, hphase⟩
    · next hphase => exact ⟨hquiet, hon, a, p, ha, hp, by simpa using hphase⟩
  · next ha =>
    split
    · next hc => exact ⟨hquiet, hon, ha, hc⟩
    next hc =>
    have hc : zn.condition = .normal := not_not.mp hc
    split
    · next hq => exact ⟨hquiet, hon, ha, hc, by simpa using hq⟩
    · next hq => exact ⟨hquiet, hon, ha, hc, by simpa using hq⟩

/-- Only one state is the state of a zone: the records that R31 asks for decide it. -/
theorem Zone.state_of_stateHolds {zn : Zone} {st : ZoneState} (h : StateHolds zn st) : zn.state = st := by
  cases st with
  | resetting => simp [Zone.state, Option.isSome_iff_ne_none.mpr h]
  | disabled =>
    obtain ⟨hquiet, hoff⟩ := h
    simp [Zone.state, hquiet, hoff]
  | waiting =>
    obtain ⟨hquiet, hon, a, ha, hp⟩ := h
    simp [Zone.state, ActiveJob.state, hquiet, hon, ha, hp]
  | frame =>
    obtain ⟨hquiet, hon, a, p, phase, ha, hp, hphase⟩ := h
    simp [Zone.state, ActiveJob.state, hquiet, hon, ha, hp, hphase]
  | interval =>
    obtain ⟨hquiet, hon, a, p, ha, hp, hphase⟩ := h
    simp [Zone.state, ActiveJob.state, hquiet, hon, ha, hp, hphase]
  | faulted =>
    obtain ⟨hquiet, hon, ha, hc⟩ := h
    simp [Zone.state, hquiet, hon, ha, hc]
  | idle | stalled =>
    obtain ⟨hquiet, hon, ha, hc, hq⟩ := h
    simp [Zone.state, hquiet, hon, ha, hc, hq]

theorem Zone.state_eq_iff (zn : Zone) (st : ZoneState) : zn.state = st ↔ StateHolds zn st :=
  ⟨fun h => h ▸ zn.stateHolds_state, Zone.state_of_stateHolds⟩

/-- Settles O23: the views of the report, then the report and the flags that it clears. -/
theorem zoneQueryClearsLatchedFlags : Obligations.ZoneQueryClearsLatchedFlags := by
  refine ⟨bandOf_eq_headerBand, fun _ => ⟨rfl, rfl, rfl⟩, ZoneConfig.effective_eq, Zone.state_eq_iff, fun q s hs =>
    ⟨fun zone hzone => ?_, fun z => ⟨zoneReport (s.zone z), ?_, rfl, rfl, rfl, rfl, ?_, fun a r ha hr => ?_, rfl, rfl, rfl,
      rfl, rfl⟩⟩⟩
  · have ha : zoneQuery zone s = refuse s .badField := by simp [zoneQuery, index?_eq_none hzone]
    exact exec_answer (.zoneQuery zone) rfl rfl hs ha
  · have ha : zoneQuery (byteOf z) s = accept (s.updZone z fun zn => { zn with openSeen := false, overloadSeen := false })
        (.zoneQuery (zoneReport (s.zone z))) := by simp [zoneQuery]
    exact exec_answer (.zoneQuery (byteOf z)) rfl rfl hs ha
  · simp [zoneReport]
  · have hreport : (s.zone z).active.map activeReport = some r := hr
    rw [ha] at hreport
    cases hreport
    exact ⟨rfl, rfl, rfl, rfl, rfl, rfl, rfl, rfl, rfl, rfl, rfl⟩

/-! ### JOB SUBMIT (R33, R34) -/

/-- Check 1 of R33 reads the mode as Table 11-5 gives it. -/
theorem jobMode?_eq_some_iff (r : JobSubmitRecord) (m : JobMode) :
    jobMode? r.mode r.repeats r.override = some m ↔ ModeRead r m := by
  unfold jobMode?
  split
  · next htap =>
    rcases m with n | (_ | o)
    · simp only [ModeRead, htap, true_and, Option.ite_none_right_eq_some, Option.some.injEq, JobMode.tap.injEq]
      exact ⟨fun ⟨⟨hmax, hzero⟩, hn⟩ => ⟨hn.symm, hn ▸ hmax, hzero⟩,
        fun ⟨hn, hmax, hzero⟩ => ⟨⟨hn ▸ hmax, hzero⟩, hn.symm⟩⟩
    · simp [ModeRead, htap]
    · simp [ModeRead, htap]
  split
  · next hhold =>
    split
    · next hzero => rcases m with n | (_ | o) <;> simp [ModeRead, hhold, hzero]; omega
    · next hpos =>
      have hone : 1 ≤ r.override.toNat :=
        Nat.one_le_iff_ne_zero.mpr fun h => hpos (BitVec.eq_of_toNat_eq h)
      rcases m with n | (_ | o)
      · simp [ModeRead, hhold]
      · simpa [ModeRead, hhold] using hpos
      · simp only [ModeRead, hhold, true_and, Option.ite_none_right_eq_some, Option.some.injEq, JobMode.hold.injEq,
          Config.maxFrames]
        omega
  · next htap hhold => rcases m with n | (_ | o) <;> simp [ModeRead, htap, hhold]

theorem overrideFits_eq_false_iff (s : State) (i : Fin 64) (m : JobMode) :
    overrideFits m (s.slot i).template = false ↔ OverrideOutside s i m := by
  rcases m with n | (_ | o)
  · simp [overrideFits, OverrideOutside]
  · simp [overrideFits, OverrideOutside]
  · cases ht : (s.slot i).template with
    | none => simp [overrideFits, OverrideOutside, ht]
    | some t =>
      simp only [overrideFits, OverrideOutside, ht, Option.some.injEq, exists_eq_left', decide_eq_false_iff_not]
      rw [Template.minRepeats, Template.holdLimit]
      omega

/-- A record that passes check 1 of R33 but for the override, with the zone, the template and the mode it stands for. -/
structure SubmitRead (r : JobSubmitRecord) (z : Fin 8) (i : Fin 64) (m : JobMode) : Prop where
  zone : r.zone = byteOf z
  template : r.template = byteOf i
  mode : ModeRead r m
  payload : r.payloadLength.toNat ≤ 64

theorem jobSubmit_undefined {r : JobSubmitRecord}
    (h : 8 ≤ r.zone.toNat ∨ 64 ≤ r.template.toNat ∨ (∀ m, ¬ ModeRead r m) ∨ 64 < r.payloadLength.toNat) (s : State) :
    jobSubmit r s = refuse s .badField := by
  unfold jobSubmit
  split
  · next z i m hz hi hm =>
    have hzone : r.zone.toNat < 8 := index?_eq_some.mp hz ▸ z.isLt
    have htemplate : r.template.toNat < 64 := index?_eq_some.mp hi ▸ i.isLt
    have hmode : ¬ ∀ m, ¬ ModeRead r m := fun hnone => hnone m ((jobMode?_eq_some_iff r m).mp hm)
    have hpayload : 64 < r.payloadLength.toNat :=
      ((h.resolve_left (by omega)).resolve_left (by omega)).resolve_left hmode
    rw [if_pos (.inl hpayload)]
  · rfl

/-- The override is judged before the zone is looked at (R33 check 1). -/
theorem SubmitRead.jobSubmit_outside {r : JobSubmitRecord} {z : Fin 8} {i : Fin 64} {m : JobMode} (h : SubmitRead r z i m)
    {s : State} (hout : OverrideOutside s i m) : jobSubmit r s = refuse s .badField := by
  have hmode := (jobMode?_eq_some_iff r m).mpr h.mode
  have hfits := (overrideFits_eq_false_iff s i m).mpr hout
  simp [jobSubmit, h.zone, h.template, hmode, hfits]

/-- A request that checks 2 to 8 of R33 refuse. -/
theorem SubmitRead.jobSubmit_refused {r : JobSubmitRecord} {z : Fin 8} {i : Fin 64} {m : JobMode} (h : SubmitRead r z i m)
    {s : State} (hin : ¬ OverrideOutside s i m) {status : Status}
    (hjudge : s.judge z i r.payloadLength.toNat r.tag = some status) : jobSubmit r s = refuse s status := by
  have hmode := (jobMode?_eq_some_iff r m).mpr h.mode
  rw [← overrideFits_eq_false_iff] at hin
  simp [jobSubmit, h.zone, h.template, hmode, hin, h.payload, hjudge]

/-- A request that all checks of R33 pass (R34). -/
theorem SubmitRead.jobSubmit_accepted {r : JobSubmitRecord} {z : Fin 8} {i : Fin 64} {m : JobMode} (h : SubmitRead r z i m)
    {s : State} (hin : ¬ OverrideOutside s i m) (hjudge : s.judge z i r.payloadLength.toNat r.tag = none) :
    jobSubmit r s = accept (s.enqueue z (submittedJob r i m)) (.jobSubmit z r.tag ((s.zone z).queue.length + 1)
      ((s.enqueue z (submittedJob r i m)).zone z).state) := by
  have hmode := (jobMode?_eq_some_iff r m).mpr h.mode
  rw [← overrideFits_eq_false_iff] at hin
  simp [jobSubmit, h.zone, h.template, hmode, hin, h.payload, hjudge]

/-- Checks 5 to 8 of R33, of an enabled zone out of its quiet time and an installed template. -/
theorem State.judge_installed {s : State} {z : Fin 8} {i : Fin 64} {t : Template} (hon : (s.zone z).config.enabled = true)
    (hquiet : (s.zone z).quietEnd = none) (ht : (s.slot i).template = some t) (payloadLength : Nat) (tag : Half) :
    s.judge z i payloadLength tag =
      if payloadLength ≠ dataBits t.main then some .badPayload
      else if (s.zone z).config.effective.has (bandOf t.header) = false then some .incompatible
      else if ∃ j ∈ (s.zone z).jobs, j.tag = tag then some .duplicateTag
      else if 8 ≤ (s.zone z).queue.length then some .queueFull
      else none := by
  simp only [State.judge, hon, hquiet, ht, ← tagInUse_iff]
  simp [Template.band]

/-- R34: the job at the tail of the queue and its claim, then the activation test. -/
theorem State.enqueue_eq (s : State) (z : Fin 8) (j : Job) :
    s.enqueue z j = { s with
      zones := s.zones.set z { s.zone z with queue := (s.zone z).queue ++ [j] }
      library := { s.library with
        slots := s.library.slots.set j.template
          ⟨(s.slot j.template).template, (s.slot j.template).useCount + 1⟩ } }.considerActivation z := rfl

/-- Settles O24: check 1 reads the record, checks 2 to 8 are the judgement, and what passes all joins the queue. -/
theorem jobSubmitChecksInOrder : Obligations.JobSubmitChecksInOrder := by
  intro q r s hs hl
  refine ⟨fun hbad => exec_answer _ rfl hl hs (jobSubmit_undefined hbad s), fun z i m hz hi hm hpayload => ⟨_, rfl, ?_⟩⟩
  have hread : SubmitRead r z i m := ⟨hz, hi, hm, hpayload⟩
  refine ⟨fun hout => exec_answer _ rfl hl hs (hread.jobSubmit_outside hout), fun hin => ?_⟩
  have refused {status : Status} (hjudge : s.judge z i r.payloadLength.toNat r.tag = some status) :
      exec (.jobSubmit q r) s = .next (s.replying 0x28#8 q status .none) :=
    exec_answer _ rfl hl hs (hread.jobSubmit_refused hin hjudge)
  refine ⟨fun hoff => refused (by simp [State.judge, hoff]), fun hon => ?_⟩
  refine ⟨fun hquiet => refused (by simp [State.judge, hon, hquiet]), fun hquiet => ?_⟩
  refine ⟨fun hempty => refused (by simp [State.judge, hon, hquiet, hempty]), fun t ht => ?_⟩
  have hjudge := State.judge_installed hon hquiet ht r.payloadLength.toNat r.tag
  refine ⟨fun hlen => refused (hjudge.trans (if_pos hlen)), fun hlen => ?_⟩
  rw [if_neg (not_not.mpr hlen)] at hjudge
  refine ⟨fun hband => refused (hjudge.trans (if_pos hband)), fun hband => ?_⟩
  rw [if_neg (by simp [hband])] at hjudge
  refine ⟨fun htag => refused (hjudge.trans (if_pos htag)), fun htag => ?_⟩
  rw [if_neg fun ⟨j, hj, he⟩ => htag j hj he] at hjudge
  refine ⟨fun hfull => refused (hjudge.trans (if_pos hfull)), fun hroom => ⟨_, _, rfl, rfl, ?_⟩⟩
  rw [if_neg (Nat.not_le.mpr hroom)] at hjudge
  have k := exec_answer (c := .jobSubmit q r) _ rfl hl hs (hread.jobSubmit_accepted hin hjudge)
  rw [State.enqueue_eq] at k
  exact k

end Sys2Proof.Machine
end

section
/-! The Start Arbiter (R45 to R54): one visit of the grant walk, and the slot boundary that makes the walk. -/
namespace Sys2Proof.Machine

/-! ### The grant of a zone (R54, R87) -/

/-- R2: a carrier unless both widths are 0. -/
theorem carrierOf_eq_some_iff (h : TemplateHeader) (c : Setting) : carrierOf h = some c ↔
    ¬ (h.carrierHigh = 0 ∧ h.carrierLow = 0) ∧ c = ⟨h.carrierHigh.toNat, h.carrierLow.toNat⟩ := by
  unfold carrierOf
  split
  · next hnone => exact iff_of_false nofun fun hsome => hsome.1 hnone
  · next hwidths => rw [and_iff_right hwidths, Option.some.injEq, eq_comm]

/-- R54: the lock of the zone's group, if it has one, is the zone's. -/
theorem Arbiter.locks_grant (a : Arbiter) (z : Fin 8) (group : Option (Fin 4)) (g : Fin 4) :
    (a.grant z group).locks[g] = if group = some g then some z else a.locks[g] := by
  cases group with
  | none => rfl
  | some k =>
    by_cases hk : k = g
    · subst hk; simp [Arbiter.grant]
    · simp [Arbiter.grant, hk, Fin.val_ne_of_ne hk]

/-- Condition 2 of R52. -/
theorem Arbiter.groupFree_iff (a : Arbiter) (group : Option (Fin 4)) :
    a.groupFree group = true ↔ ∀ g, group = some g → a.locks[g] = none := by
  cases group <;> simp [Arbiter.groupFree]

/-- A frame begins from the templates, the zone's toggle bits, and the job and its frame count alone. -/
theorem FrameBegun.congr {s t : State} {z : Fin 8} {a b : ActiveJob} {now : Nat} {last : Option Nat} {p : PlayState}
    (h : FrameBegun s z a now last p) (htemplate : ∀ i, s.template i = t.template i)
    (htoggles : (s.zone z).toggles = (t.zone z).toggles) (hjob : a.job = b.job) (hframes : a.framesStarted = b.framesStarted) :
    FrameBegun t z b now last p := by
  obtain ⟨number, list, cursor, phase, noPeriod, period, hlast⟩ := h
  rw [hframes] at number list noPeriod period
  rw [htemplate, hjob] at list noPeriod period
  rw [htemplate, htoggles] at phase
  simp only [hjob] at phase
  exact ⟨number, list, cursor, phase, noPeriod, period, hlast⟩

theorem State.updActive_eq {s : State} {z : Fin 8} {a : ActiveJob} (ha : (s.zone z).active = some a)
    (f : ActiveJob → ActiveJob) :
    s.updActive z f = { s with zones := s.zones.set z { s.zone z with active := some (f a) } } := by
  rw [State.updActive, State.updZone, State.setZone, ha]; rfl

/-- The zone after its grant, before its gate moves: its job is bound and in its first frame. -/
def State.seated (s : State) (z : Fin 8) (generators : Vector Generator 4) (now : ActiveJob) : State :=
  { s with
    zones := s.zones.set z { s.zone z with active := some now }
    arbiter := s.arbiter.grant z (s.zone z).config.group
    generators := generators }

@[simp] theorem State.zone_seated_self (s : State) (z : Fin 8) (gens : Vector Generator 4) (now : ActiveJob) :
    (s.seated z gens now).zone z = { s.zone z with active := some now } := by
  simp [State.seated, State.zone]

/-- R54: everything that a grant does, with the generators as the zone has left them by obtaining its carrier. -/
theorem State.grant_eq {s : State} {z : Fin 8} {a : ActiveJob} (ha : (s.zone z).active = some a)
    (gens : Vector Generator 4) (binding : Option (Fin 4)) :
    ∃ p, FrameBegun s z a s.ticks (a.play.bind PlayState.lastPhaseEnd) p ∧
      State.grant { s with generators := gens } z binding =
        (s.seated z gens ({ a with binding := binding }.begun s.timeBase p)).regated z false := by
  have hbound : State.updActive { s with generators := gens, arbiter := s.arbiter.grant z (s.zone z).config.group } z
      (fun a => { a with binding := binding }) = s.seated z gens { a with binding := binding } := by
    refine State.updActive_eq (a := a) ?_ _
    exact ha
  obtain ⟨p, hbegun, hstart⟩ := (s.seated z gens { a with binding := binding }).startFrame_eq z _
    (congrArg Zone.active (State.zone_seated_self ..))
  refine ⟨p, hbegun.congr (fun _ => rfl) (by rw [State.zone_seated_self]) rfl rfl, ?_⟩
  have hframe : (s.seated z gens { a with binding := binding }).startFrame z =
      s.seated z gens ({ a with binding := binding }.begun s.timeBase p) := by
    rw [hstart, State.zone_seated_self]
    simp only [State.seated, vector_set_set]
    rfl
  exact (congrArg (fun u => (State.startFrame u z).gateMoved z false) hbound).trans
    ((congrArg (fun u => State.gateMoved u z false) hframe).trans (State.gateMoved_eq ..))

/-- Once a zone is seated, moving its gate changes what its output emits. -/
theorem State.zone_seated_regated (s : State) (z : Fin 8) (gens : Vector Generator 4) (now : ActiveJob) :
    ((s.seated z gens now).regated z false).zone z = { s.zone z with
      active := some now
      emission := gateEmission (s.zone z) (((s.seated z gens now).regated z false).boundWave z) s.ticks false
        ({ s.zone z with active := some now }.gateOpen) } := by
  have hzone : ((s.seated z gens now).regated z false).zone z = { (s.seated z gens now).zone z with
      emission := gateEmission ((s.seated z gens now).zone z) ((s.seated z gens now).boundWave z) s.ticks false
        ((s.seated z gens now).zone z).gateOpen } := by
    simp [State.regated, State.zone]; rfl
  have hwave : ((s.seated z gens now).regated z false).boundWave z = (s.seated z gens now).boundWave z := by
    rw [State.boundWave, hzone]; rfl
  rw [hwave, hzone, State.zone_seated_self]
  cases ({ s.zone z with active := some now } : Zone).gateOpen <;> rfl

theorem State.zone_seated_regated_ne (s : State) {y z : Fin 8} (gens : Vector Generator 4) (now : ActiveJob) (hy : y ≠ z) :
    ((s.seated z gens now).regated z false).zone y = s.zone y := by
  simp [State.regated, State.seated, State.zone, Fin.val_ne_of_ne (Ne.symm hy)]

/-! ### One visit of the walk (R52, R54) -/

section
variable {s : State} {z : Fin 8} {a : ActiveJob} (ha : (s.zone z).active = some a)
include ha

/-- Conditions 1 and 2 of R52. -/
theorem State.visit_passed (hfails : (s.arbiter.admits z && s.arbiter.groupFree (s.zone z).config.group) = false) :
    s.visit z = s := by
  simp [State.visit, ha, hfails]

/-- Condition 3 of R52. -/
theorem State.visit_no_carrier {c : Setting} (hc : (s.template a.job.template).carrier = some c)
    (hnone : s.obtainable c = none) : s.visit z = s := by
  simp [State.visit, ha, hc, hnone]

theorem State.visit_baseband (hmay : (s.arbiter.admits z && s.arbiter.groupFree (s.zone z).config.group) = true)
    (hc : (s.template a.job.template).carrier = none) : s.visit z = s.grant z none := by
  simp [State.visit, ha, hmay, hc]

theorem State.visit_obtains (hmay : (s.arbiter.admits z && s.arbiter.groupFree (s.zone z).config.group) = true)
    {c : Setting} {g : Fin 4} (hc : (s.template a.job.template).carrier = some c) (hg : s.obtainable c = some g) :
    s.visit z = (s.obtain g c z).grant z (some g) := by
  simp [State.visit, ha, hmay, hc, hg]

/-- A zone that meets the conditions of R52 is granted; of the generators only the one it is bound to has changed. -/
theorem State.visit_granted (hmay : (s.arbiter.admits z && s.arbiter.groupFree (s.zone z).config.group) = true)
    {binding : Option (Fin 4)} (hbinding : (s.template a.job.template).carrier = none ∧ binding = none
      ∨ ∃ c g, (s.template a.job.template).carrier = some c ∧ s.obtainable c = some g ∧ binding = some g) :
    ∃ gens : Vector Generator 4, s.visit z = State.grant { s with generators := gens } z binding
      ∧ (∀ g : Fin 4, binding ≠ some g → gens[g] = s.generator g) ∧ (binding = none → gens = s.generators)
      ∧ ∀ c g, (s.template a.job.template).carrier = some c → binding = some g →
        gens[g] = (s.obtain g c z).generator g := by
  rcases hbinding with ⟨hc, rfl⟩ | ⟨c, g, hc, hg, rfl⟩
  · exact ⟨s.generators, State.visit_baseband ha hmay hc, fun _ _ => rfl, fun _ => rfl, fun _ _ _ => nofun⟩
  · refine ⟨(s.obtain g c z).generators, State.visit_obtains ha hmay hc hg, fun k hk => ?_, nofun, fun d k hd hk => ?_⟩
    · exact State.generator_setGenerator_ne s _ fun h => hk (by rw [h])
    · cases hk; cases hc.symm.trans hd; rfl

end

/-- Settles O38: the conditions in order, then the one grant that both kinds of carrier come to. -/
theorem grantWalkVisit : Obligations.GrantWalkVisit := by
  refine ⟨carrierOf_eq_some_iff, fun z a s ha => ⟨_, _, rfl, rfl, fun hslot => ?_, fun g hg hlock => ?_,
    fun c hc hnone => State.visit_no_carrier ha hc hnone, fun hslot hlock binding hbinding => ?_⟩⟩
  · exact State.visit_passed ha (by rw [show s.arbiter.admits z = false from hslot]; rfl)
  · have hheld : s.arbiter.groupFree (s.zone z).config.group = false := by
      rw [← Bool.not_eq_true, Arbiter.groupFree_iff]
      exact fun hfree => hlock (hfree g hg)
    exact State.visit_passed ha (by simp [hheld])
  · have hmay : (s.arbiter.admits z && s.arbiter.groupFree (s.zone z).config.group) = true := by
      rw [Bool.and_eq_true]
      exact ⟨hslot, (Arbiter.groupFree_iff ..).mpr hlock⟩
    obtain ⟨gens, hvisit, hkept, hnone, hobtained⟩ := State.visit_granted ha hmay hbinding
    obtain ⟨p, hbegun, hgrant⟩ := State.grant_eq ha gens binding
    rw [hvisit, hgrant]
    exact ⟨_, rfl, rfl, rfl, Arbiter.locks_grant _ _ _, fun y hy => State.zone_seated_regated_ne s gens _ hy, hkept, hnone,
      hobtained, p, hbegun, _, rfl, State.zone_seated_regated ..⟩

/-! ### The slot boundary (R45, R49, R52, R53) -/

/-- R117: a gate that is closed is not sensed. -/
theorem State.sense_closed (s : State) (z : Fin 8) (h : (s.zone z).gateOpen = false) : s.sense z = s := by
  simp [State.sense, Zone.sampling, h]

/-- Settles O37: what a sensed gate does, then the boundary. -/
theorem slotBoundaryStepsAndWalks : Obligations.SlotBoundaryStepsAndWalks := by
  refine ⟨fun z s => ⟨fun h => ?_, fun h => (State.sense_eq_report s z h).symm⟩, fun s => ⟨fun h => ?_, fun h => ?_⟩⟩
  · rcases h with hnormal | hdark | hclosed
    · exact State.sense_normal s z (.inl hnormal)
    · exact State.sense_normal s z (.inr hdark)
    · exact State.sense_closed s z hclosed
  · show Host.Outcome.next (slotBoundary s) = _
    simp [slotBoundary, Option.isSome_iff_ne_none, h]
  · refine ⟨_, s.arbiter.slotIndex + 1, _, s.nextSlot, rfl, ?index, rfl, ?slot, ?walk⟩
    case index => simp [Fin.val_add]
    case slot =>
      simp only [State.nextSlot, State.advance, Arbiter.step, Config.ticksPerSlotUnit, Nat.mul_assoc, Nat.reduceMul]
      rfl
    case walk =>
      show Host.Outcome.next (slotBoundary s) = _
      simp [slotBoundary, h, State.walk, State.senseAll]

/-! ### SLOT PLAN (R48) and the queries (R59, R64, R73, R180) -/

/-- Settles O35. -/
theorem slotPlanStagesPlan : Obligations.SlotPlanStagesPlan := by
  intro q length masks s hs
  have hempty : masks.toList.any (fun m => decide (m = 0)) = true ↔ ∃ z : Fin 8, masks[z] = 0 := by
    simp [Vector.any_eq_true, Fin.exists_iff]
  refine ⟨fun hbad => exec_answer (.slotPlan length masks) rfl rfl hs (a := refuse s .badField) ?_, fun hlow hhigh hall =>
    exec_answer (.slotPlan length masks) rfl rfl hs (a := accept _ _) ?_⟩
  · show slotPlan length masks s = _
    rw [slotPlan, if_pos (by rwa [hempty])]
  · show slotPlan length masks s = _
    rw [slotPlan, if_neg (by rw [hempty]; rintro (h | h | ⟨z, h⟩) <;> [omega; omega; exact hall z h])]

/-- The waiting zones are reported in order, one entry each: a waiting zone has an active job (R50, R59). -/
theorem State.forall₂_waitingEntry {s : State} {order : List (Fin 8)} (hw : ∀ z ∈ order, (s.zone z).waits) :
    List.Forall₂ (fun z entry => ∃ a, (s.zone z).active = some a ∧ entry = (z, a.job.tag, a.job.template)) order
      (order.filterMap s.waitingEntry) := by
  induction order with
  | nil => exact .nil
  | cons z rest ih =>
    obtain ⟨a, ha, -⟩ := hw z List.mem_cons_self
    have hentry : s.waitingEntry z = some (z, a.job.tag, a.job.template) := by rw [State.waitingEntry, ha]; rfl
    rw [List.filterMap_cons_some hentry]
    exact .cons ⟨a, ha, rfl⟩ (ih fun y hy => hw y (List.mem_cons_of_mem z hy))

/-- The selector of SLOT QUERY (Table 11-8). -/
theorem planStaged?_of_lt {selector : Byte} (h : selector.toNat < 2) :
    planStaged? selector = some (decide (selector ≠ 0x00#8)) := by
  revert h; revert selector; decide

theorem planStaged?_of_le {selector : Byte} (h : 2 ≤ selector.toNat) : planStaged? selector = none := by
  revert h; revert selector; decide

theorem slotQuery_of_lt {selector : Byte} (h : selector.toNat < 2) (s : State) :
    slotQuery selector s = accept s (.slotQuery
      { staged := s.arbiter.stagedPlan.isSome
        plan := if selector = 0x00#8 then some s.arbiter.activePlan else s.arbiter.stagedPlan
        index := s.arbiter.slotIndex
        waiting := s.arbiter.waiting.filterMap s.waitingEntry
        locks := s.arbiter.locks }) := by
  rw [slotQuery, planStaged?_of_lt h]
  by_cases hzero : selector = 0x00#8 <;> simp [hzero]

/-- What CARRIER QUERY reports of one generator, as R73 and R2 give it. -/
theorem carrierReport_eq (gen : Generator) : (carrierReport gen).running = gen.wave.isSome
    ∧ (carrierReport gen).setting = gen.setting ∧ (carrierReport gen).refCount = gen.refCount
    ∧ (∀ z : Fin 8, (carrierReport gen).bound[z] = decide (z ∈ gen.bound))
    ∧ (carrierReport gen).period = gen.setting.map (fun c => c.high + c.low)
    ∧ (carrierReport gen).band = gen.setting.map (fun c => if 100 ≤ c.high + c.low then .lf else .hf) := by
  refine ⟨rfl, rfl, rfl, fun z => ?_, rfl, rfl⟩
  have hindex : (#v[0, 1, 2, 3, 4, 5, 6, 7] : Vector (Fin 8) 8)[z] = z := by revert z; decide
  simp only [carrierReport, Fin.getElem_fin, mapVector_getElem] at hindex ⊢
  rw [hindex]

/-- Settles O36, request by request. -/
theorem sharedBlockQueriesReport : Obligations.SharedBlockQueriesReport := by
  intro q s hs
  refine ⟨fun sel hsel => exec_answer (.slotQuery sel) rfl rfl hs (a := refuse s .badField)
      (by simp [answer, slotQuery, planStaged?_of_le hsel]),
    fun sel hsel => ⟨_, exec_answer (.slotQuery sel) rfl rfl hs (slotQuery_of_lt hsel s), rfl, rfl, rfl, rfl, fun hlaw =>
      State.forall₂_waitingEntry fun z hz => (hlaw.2 z).mp hz⟩,
    ⟨_, exec_answer .carrierQuery rfl rfl hs rfl, fun g => ?carrier⟩, ?time,
    ⟨identifyReport s, exec_answer .identify rfl rfl hs rfl, rfl, rfl, rfl, rfl, rfl, rfl, rfl, rfl, rfl, rfl, fun z => ?strap⟩⟩
  case carrier =>
    have hreport : (mapVector carrierReport s.generators)[g] = carrierReport (s.generator g) := by simp [State.generator]
    rw [hreport]
    exact carrierReport_eq _
  case time =>
    have htime : s.timeBase = BitVec.ofNat 32 (s.ticks / 8) := by simp [State.timeBase, hs.1, reading, Config.ticksPerUs]
    exact htime ▸ exec_answer .timeQuery rfl rfl hs rfl
  case strap =>
    simp only [identifyReport, State.zone, Fin.getElem_fin, mapVector_getElem]
    rfl

end Sys2Proof.Machine
end

section
/-!
Waiting list, group locks and carrier pool against the zones (R50, R51, R65), as one predicate. What these three see of a
zone is its group and the seat of its active job: whether it has been granted, and on which generator. A change that keeps
every seat keeps the predicate; four moves change a seat: a job joins the list, is granted, leaves, or a reset clears all.
-/
namespace Sys2Proof.Machine

/-! ### The seat of a zone's active job -/

/-- Whether the active job has been granted, and the generator it is bound to. -/
def Zone.seat (zn : Zone) : Option (Bool × Option (Fin 4)) := zn.active.map fun a => (a.play.isSome, a.binding)

/-- The zone is to hold the lock of group `g` (R51). -/
def Zone.holdsLock (zn : Zone) (g : Fin 4) : Prop := zn.config.group = some g ∧ zn.plays

/-- The zone is to be bound to generator `g` (R65). -/
def Zone.holdsCarrier (zn : Zone) (g : Fin 4) : Prop := zn.plays ∧ zn.binding = some g

theorem Zone.waits_iff_seat (zn : Zone) : zn.waits ↔ ∃ b, zn.seat = some (false, b) := by
  simp [Zone.waits, Zone.seat]

theorem Zone.plays_iff_seat (zn : Zone) : zn.plays ↔ ∃ b, zn.seat = some (true, b) := by
  simp [Zone.plays, Zone.seat, Option.isSome_iff_exists]

theorem Zone.binding_eq_seat (zn : Zone) : zn.binding = zn.seat.bind Prod.snd := by
  cases h : zn.active <;> simp [Zone.binding, Zone.seat, h]

theorem Zone.not_waits_of_idle {zn : Zone} (h : zn.active = none) : ¬ zn.waits := by simp [Zone.waits, h]

theorem Zone.not_plays_of_idle {zn : Zone} (h : zn.active = none) : ¬ zn.plays := by simp [Zone.plays, h]

theorem Zone.waits_or_plays {zn : Zone} {a : ActiveJob} (h : zn.active = some a) : zn.waits ∨ zn.plays := by
  cases hp : a.play with
  | none => exact .inl ⟨a, h, hp⟩
  | some p => exact .inr ⟨a, p, h, hp⟩

theorem Zone.not_plays_of_waits {zn : Zone} (h : zn.waits) : ¬ zn.plays := by
  rintro ⟨a, p, ha, hp⟩
  obtain ⟨b, hb, hnone⟩ := h
  cases ha.symm.trans hb
  exact nomatch hp.symm.trans hnone

/-- The shared blocks see no difference between the two records: the seat is the same, and so is the group of a zone that
has an active job. -/
structure Zone.Alike (new old : Zone) : Prop where
  seat : new.seat = old.seat
  group : old.active.isSome → new.config.group = old.config.group

theorem Zone.Alike.of_same {new old : Zone} (ha : new.active = old.active) (hc : new.config = old.config) :
    new.Alike old :=
  ⟨by rw [Zone.seat, Zone.seat, ha], fun _ => by rw [hc]⟩

theorem Zone.Alike.waits {new old : Zone} (h : new.Alike old) : new.waits ↔ old.waits := by
  rw [Zone.waits_iff_seat, Zone.waits_iff_seat, h.seat]

theorem Zone.Alike.plays {new old : Zone} (h : new.Alike old) : new.plays ↔ old.plays := by
  rw [Zone.plays_iff_seat, Zone.plays_iff_seat, h.seat]

theorem Zone.Alike.binding {new old : Zone} (h : new.Alike old) : new.binding = old.binding := by
  rw [Zone.binding_eq_seat, Zone.binding_eq_seat, h.seat]

theorem Zone.Alike.holdsLock {new old : Zone} (h : new.Alike old) (g : Fin 4) : new.holdsLock g ↔ old.holdsLock g := by
  unfold Zone.holdsLock
  rw [h.plays]
  refine and_congr_left fun ⟨a, p, ha, hp⟩ => ?_
  rw [h.group (by simp [ha])]

theorem Zone.Alike.holdsCarrier {new old : Zone} (h : new.Alike old) (g : Fin 4) :
    new.holdsCarrier g ↔ old.holdsCarrier g := by
  rw [Zone.holdsCarrier, Zone.holdsCarrier, h.plays, h.binding]

/-! ### A generator and the zones it serves -/

/-- R65: the generator is bound to exactly these zones, counts them, and runs while there are any. -/
structure Generator.Serves (gen : Generator) (users : Fin 8 → Prop) : Prop where
  nodup : gen.bound.Nodup
  count : gen.refCount = gen.bound.length
  bound : ∀ z, z ∈ gen.bound ↔ users z
  running : gen.wave.isSome ↔ 0 < gen.refCount
  setting : gen.wave.isSome → gen.setting.isSome

section
variable {gen : Generator} {users : Fin 8 → Prop}

theorem Generator.Serves.congr (h : gen.Serves users) {others : Fin 8 → Prop} (hsame : ∀ z, users z ↔ others z) :
    gen.Serves others :=
  ⟨h.nodup, h.count, fun z => (h.bound z).trans (hsame z), h.running, h.setting⟩

/-- R66: a half follows another. -/
theorem Generator.Serves.setWave (h : gen.Serves users) (hrun : gen.wave.isSome) (w : Wave) :
    Generator.Serves { gen with wave := some w } users :=
  ⟨h.nodup, h.count, h.bound, iff_of_true rfl (h.running.mp hrun), fun _ => h.setting hrun⟩

/-- R70: one of the zones leaves. -/
theorem Generator.Serves.release (h : gen.Serves users) {z : Fin 8} (hz : users z) :
    (gen.release z).Serves fun y => y ≠ z ∧ users y := by
  have hmem : z ∈ gen.bound := (h.bound z).mpr hz
  have hrun : gen.wave.isSome := h.running.mpr (h.count ▸ List.length_pos_of_mem hmem)
  refine ⟨h.nodup.erase z, ?_, fun y => ?_, ?_, ?_⟩
  · rw [Generator.release, h.count, List.length_erase_of_mem hmem]
  · simp only [Generator.release, h.nodup.mem_erase_iff, h.bound]
  · by_cases hlast : gen.refCount ≤ 1
    · simp [Generator.release, hlast]
    · simp [Generator.release, hlast, hrun, Nat.lt_of_not_le hlast]
  · exact fun _ => h.setting hrun

/-- R67 step 1: a zone joins a running generator. -/
theorem Generator.Serves.share (h : gen.Serves users) (hrun : gen.wave.isSome) {z : Fin 8} (hz : ¬ users z) :
    (gen.share z).Serves fun y => y = z ∨ users y := by
  have hnew : z ∉ gen.bound := fun hmem => hz ((h.bound z).mp hmem)
  refine ⟨?_, ?_, fun y => ?_, iff_of_true hrun (Nat.succ_pos _), fun _ => h.setting hrun⟩
  · have joined := h.nodup.concat hnew
    rwa [List.concat_eq_append] at joined
  · simp [Generator.share, h.count]
  · simp [Generator.share, h.bound, or_comm]

/-- R67 step 2: a FREE generator, which no zone uses, is started for a zone. -/
theorem Generator.Serves.begin (h : gen.Serves users) (hfree : ¬ gen.wave.isSome) (c : Setting) (z : Fin 8) (now : Nat) :
    (Generator.begin c z now).Serves fun y => y = z ∨ users y := by
  have hnone : gen.bound = [] := by
    have hcount := mt h.running.mpr hfree
    rw [h.count] at hcount
    exact List.eq_nil_of_length_eq_zero (by omega)
  have hunused : ∀ y, ¬ users y := fun y hy => by simpa [hnone] using (h.bound y).mpr hy
  exact ⟨List.nodup_singleton z, rfl, fun y => by simp [Generator.begin, hunused], by simp [Generator.begin], fun _ => rfl⟩

end

/-! ### The shared blocks in agreement with the zones -/

/-- R50, R51 and R65 of the whole part. -/
structure Shared (s : State) : Prop where
  listed : s.arbiter.waiting.Nodup
  waiting : ∀ z : Fin 8, z ∈ s.arbiter.waiting ↔ (s.zone z).waits
  locks : ∀ (g : Fin 4) (z : Fin 8), s.arbiter.locks[g] = some z ↔ (s.zone z).holdsLock g
  unbound : ∀ z, (s.zone z).waits → (s.zone z).binding = none
  pool : ∀ g, (s.generator g).Serves fun z => (s.zone z).holdsCarrier g

theorem shared_iff (s : State) : Shared s ↔ WaitingLaw s ∧ LockLaw s ∧ PoolLaw s := by
  constructor
  · intro h
    exact ⟨⟨h.listed, h.waiting⟩, h.locks, h.unbound, fun g =>
      ⟨(h.pool g).nodup, (h.pool g).count, (h.pool g).bound, (h.pool g).running, (h.pool g).setting⟩⟩
  · rintro ⟨⟨hlisted, hwaiting⟩, hlocks, hunbound, hpool⟩
    refine ⟨hlisted, hwaiting, hlocks, hunbound, fun g => ?_⟩
    obtain ⟨hnodup, hcount, hbound, hrunning, hsetting⟩ := hpool g
    exact ⟨hnodup, hcount, hbound, hrunning, hsetting⟩

/-- THE RULE. No seat changes, nor do the list, the locks and the generators. -/
theorem Shared.of_alike {s t : State} (h : Shared s) (hz : ∀ z, (t.zone z).Alike (s.zone z))
    (hwaiting : t.arbiter.waiting = s.arbiter.waiting) (hlocks : t.arbiter.locks = s.arbiter.locks)
    (hgen : t.generators = s.generators) : Shared t := by
  refine ⟨hwaiting ▸ h.listed, fun z => ?_, fun g z => ?_, fun z hw => ?_, fun g => ?_⟩
  · rw [hwaiting, h.waiting, (hz z).waits]
  · rw [hlocks, h.locks, (hz z).holdsLock]
  · exact (hz z).binding.trans (h.unbound z ((hz z).waits.mp hw))
  · have hsame : t.generator g = s.generator g := congrArg (fun gs => gs[g]) hgen
    exact hsame ▸ (h.pool g).congr fun z => ((hz z).holdsCarrier g).symm

/-- Zones, arbiter and generators stay. -/
theorem Shared.of_fields {s t : State} (h : Shared s) (hz : t.zones = s.zones) (harb : t.arbiter = s.arbiter)
    (hgen : t.generators = s.generators) : Shared t :=
  h.of_alike (fun z => by rw [State.zone, hz]; exact .of_same rfl rfl) (harb ▸ rfl) (harb ▸ rfl) hgen

/-- The records of one zone change, its seat does not. -/
theorem Shared.updZone {s : State} (h : Shared s) (z : Fin 8) (f : Zone → Zone) (hf : (f (s.zone z)).Alike (s.zone z)) :
    Shared (s.updZone z f) := by
  refine h.of_alike (fun y => ?_) rfl rfl rfl
  by_cases hy : y = z
  · subst hy; rwa [State.zone_updZone_self]
  · rw [State.zone_updZone_ne s f hy]; exact .of_same rfl rfl

/-- The records of every zone change, no seat does. -/
theorem Shared.mapZones {s t : State} (h : Shared s) (f : Zone → Zone) (hf : ∀ zn, (f zn).Alike zn)
    (hz : t.zones = mapVector f s.zones) (harb : t.arbiter = s.arbiter) (hgen : t.generators = s.generators) : Shared t :=
  h.of_alike (fun z => by simpa [State.zone, hz] using hf _) (harb ▸ rfl) (harb ▸ rfl) hgen

/-! ### The four moves -/

/-- R37: the head job of a zone without an active job becomes one that waits. -/
theorem Shared.beginWaiting {s : State} (h : Shared s) {z : Fin 8} (hidle : (s.zone z).active = none) (j : Job)
    (rest : List Job) : Shared (s.beginWaiting z j rest) := by
  have hnew : z ∉ s.arbiter.waiting := fun hmem => Zone.not_waits_of_idle hidle ((h.waiting z).mp hmem)
  have hself := State.zone_beginWaiting_self s z j rest
  have hne (y : Fin 8) (hy : y ≠ z) : (s.beginWaiting z j rest).zone y = s.zone y := State.zone_beginWaiting_ne s j rest hy
  have hwaits : ((s.beginWaiting z j rest).zone z).waits := by rw [hself]; exact ⟨_, rfl, rfl⟩
  have hplays : ∀ y, ((s.beginWaiting z j rest).zone y).plays ↔ (s.zone y).plays := by
    intro y
    by_cases hy : y = z
    · subst hy
      exact iff_of_false (Zone.not_plays_of_waits hwaits) (Zone.not_plays_of_idle hidle)
    · rw [hne y hy]
  refine ⟨?_, fun y => ?_, fun g y => ?_, fun y hy => ?_, fun g => ?_⟩
  · have joined := h.listed.concat hnew
    rwa [List.concat_eq_append] at joined
  · by_cases hy : y = z
    · subst hy
      exact iff_of_true (by simp [State.beginWaiting]) hwaits
    · rw [hne y hy, ← h.waiting y]
      simp [State.beginWaiting, hy]
  · refine (h.locks g y).trans ?_
    unfold Zone.holdsLock
    rw [hplays]
    by_cases hy : y = z
    · subst hy
      exact and_congr_left fun hp => absurd hp (Zone.not_plays_of_idle hidle)
    · rw [hne y hy]
  · by_cases hyz : y = z
    · subst hyz; rw [hself]; rfl
    · rw [hne y hyz] at hy ⊢
      exact h.unbound y hy
  · refine (h.pool g).congr fun y => ?_
    unfold Zone.holdsCarrier
    rw [hplays]
    by_cases hy : y = z
    · subst hy
      exact and_congr_right fun hp => absurd hp (Zone.not_plays_of_idle hidle)
    · rw [hne y hy]

/-- R26, R122: the active job of a zone is gone, and what it held is given back. -/
theorem Shared.leave {s t : State} (h : Shared s) {z : Fin 8} {a : ActiveJob} (ha : (s.zone z).active = some a)
    (hgone : (t.zone z).active = none) (hne : ∀ y, y ≠ z → t.zone y = s.zone y)
    (harb : t.arbiter = (s.giveBack z a.binding).arbiter)
    (hgen : t.generators = (s.giveBack z a.binding).generators) : Shared t := by
  have hwaiting : t.arbiter.waiting = s.arbiter.waiting.filter fun w => decide (w ≠ z) := by rw [harb]; simp [State.giveBack]
  have hbinding : (s.zone z).binding = a.binding := by rw [Zone.binding, ha]; rfl
  refine ⟨?_, fun y => ?_, fun g y => ?_, fun y hy => ?_, fun g => ?_⟩
  · rw [hwaiting]; exact h.listed.filter _
  · rw [hwaiting]
    by_cases hy : y = z
    · subst hy
      exact iff_of_false (by simp) (Zone.not_waits_of_idle hgone)
    · simp [hy, hne y hy, h.waiting y]
  · have hlock : t.arbiter.locks[g] = if s.arbiter.locks[g] = some z then none else s.arbiter.locks[g] := by
      rw [harb]; simp [State.giveBack]
    rw [hlock]
    by_cases hy : y = z
    · subst hy
      refine iff_of_false ?_ fun hheld => Zone.not_plays_of_idle hgone hheld.2
      split
      · exact nofun
      · next hother => exact hother
    · rw [hne y hy, ← h.locks g y]
      split
      · next hz => simp [hz, Ne.symm hy]
      · rfl
  · by_cases hyz : y = z
    · subst hyz; exact absurd hy (Zone.not_waits_of_idle hgone)
    · rw [hne y hyz] at hy ⊢
      exact h.unbound y hy
  · have hreleased : t.generator g = if a.binding = some g then (s.generator g).release z else s.generator g :=
      (congrArg (fun gs => gs[g]) hgen).trans (State.generator_releaseBinding s z a.binding g)
    have hleft (y : Fin 8) : y ≠ z ∧ (s.zone y).holdsCarrier g ↔ (t.zone y).holdsCarrier g := by
      by_cases hy : y = z
      · subst hy
        exact iff_of_false (fun hboth => hboth.1 rfl) fun hheld => Zone.not_plays_of_idle hgone hheld.1
      · rw [hne y hy]; exact and_iff_right hy
    rw [hreleased]
    split
    · next hg =>
      have hplays : (s.zone z).plays := (Zone.waits_or_plays ha).resolve_left fun hw => by
        rw [← hbinding, h.unbound z hw] at hg; exact nomatch hg
      exact ((h.pool g).release ⟨hplays, hbinding.trans hg⟩).congr hleft
    · next hg =>
      refine (h.pool g).congr fun y => Iff.trans ⟨fun hheld => ⟨?_, hheld⟩, And.right⟩ (hleft y)
      rintro rfl
      exact hg (hbinding.symm.trans hheld.2)

/-- R54: a waiting zone whose group's lock is free is granted; `binding` is the carrier that it has obtained. -/
theorem Shared.granted {s t : State} (h : Shared s) {z : Fin 8} {binding : Option (Fin 4)} (hw : (s.zone z).waits)
    (hfree : ∀ g, (s.zone z).config.group = some g → s.arbiter.locks[g] = none)
    (hseat : (t.zone z).seat = some (true, binding)) (hgroup : (t.zone z).config.group = (s.zone z).config.group)
    (hne : ∀ y, y ≠ z → t.zone y = s.zone y) (harb : t.arbiter = s.arbiter.grant z (s.zone z).config.group)
    (hpool : ∀ g, (t.generator g).Serves fun y => y = z ∧ binding = some g ∨ (s.zone y).holdsCarrier g) : Shared t := by
  have hplays : (t.zone z).plays := (Zone.plays_iff_seat _).mpr ⟨binding, hseat⟩
  have hbinding : (t.zone z).binding = binding := by rw [Zone.binding_eq_seat, hseat]; rfl
  have hbefore : ¬ (s.zone z).plays := Zone.not_plays_of_waits hw
  have hafter : ¬ (t.zone z).waits := fun hwaits => Zone.not_plays_of_waits hwaits hplays
  have hwaiting : t.arbiter.waiting = s.arbiter.waiting.filter fun w => decide (w ≠ z) := by rw [harb]; rfl
  refine ⟨?_, fun y => ?_, fun g y => ?_, fun y hy => ?_, fun g => (hpool g).congr fun y => ?_⟩
  · rw [hwaiting]; exact h.listed.filter _
  · rw [hwaiting]
    by_cases hy : y = z
    · subst hy
      exact iff_of_false (by simp) hafter
    · simp [hy, hne y hy, h.waiting y]
  · have hlock : t.arbiter.locks[g] = if (s.zone z).config.group = some g then some z else s.arbiter.locks[g] := by
      rw [harb]; exact Arbiter.locks_grant ..
    rw [hlock]
    by_cases hy : y = z
    · subst hy
      unfold Zone.holdsLock
      rw [hgroup, and_iff_left hplays]
      refine ⟨fun hheld => ?_, fun hg => if_pos hg⟩
      split at hheld
      · assumption
      · exact absurd ((h.locks g y).mp hheld).2 hbefore
    · rw [hne y hy, ← h.locks g y]
      split
      · next hg => simp [hfree g hg, Ne.symm hy]
      · rfl
  · by_cases hyz : y = z
    · subst hyz; exact absurd hy hafter
    · rw [hne y hyz] at hy ⊢
      exact h.unbound y hy
  · by_cases hy : y = z
    · subst hy
      unfold Zone.holdsCarrier
      rw [hbinding, and_iff_right hplays]
      simp [hbefore]
    · simp [hy, hne y hy]

/-- No job, an empty list, free locks and FREE generators, as a reset leaves the part. -/
theorem Shared.of_reset {s : State} (hz : ∀ z, ∃ strap, s.zone z = Zone.reset strap) (harb : s.arbiter = Arbiter.reset)
    (hgen : s.generators = Vector.replicate 4 Generator.reset) : Shared s := by
  have hidle (z : Fin 8) : (s.zone z).active = none := by obtain ⟨strap, hreset⟩ := hz z; rw [hreset]; rfl
  refine ⟨harb ▸ List.nodup_nil, fun z => ?_, fun g z => ?_, fun z hw => ?_, fun g => ?_⟩
  · rw [harb]; exact iff_of_false List.not_mem_nil (Zone.not_waits_of_idle (hidle z))
  · rw [harb]; exact iff_of_false (by simp [Arbiter.reset]) fun hheld => Zone.not_plays_of_idle (hidle z) hheld.2
  · exact absurd hw (Zone.not_waits_of_idle (hidle z))
  · have hfree : s.generator g = Generator.reset := by simp [State.generator, hgen]
    rw [hfree]
    exact ⟨List.nodup_nil, rfl, fun z => iff_of_false List.not_mem_nil fun hheld => Zone.not_plays_of_idle (hidle z) hheld.1,
      by simp [Generator.reset], nofun⟩

end Sys2Proof.Machine
end

section
/-! The operations of zones and jobs keep the shared blocks in agreement. -/
namespace Sys2Proof.Machine

/-! ### The end of a job, activation, submission -/

theorem Shared.endJob {s : State} (h : Shared s) (z : Fin 8) (o : JobOutcome) (time : Word) :
    Shared (s.endJob z o time) := by
  cases ha : (s.zone z).active with
  | none => simpa [State.endJob, ha] using h
  | some a =>
    refine h.leave ha (by rw [State.endJob_zone_self s z a ha]) (fun y hy => State.zone_endJob_ne s o time hy) ?_ ?_
    · rw [State.endJob_eq ha]; simp [State.giveBack]
    · rw [State.endJob_eq ha]; simp [State.giveBack]

theorem Shared.activateHead {s : State} (h : Shared s) (z : Fin 8) (hidle : (s.zone z).active = none) :
    Shared (s.activateHead z) := by
  unfold State.activateHead
  split
  · exact h
  · next j rest _ =>
    split
    · exact h.beginWaiting hidle j rest
    · have recorded : Shared (s.updZone z fun zn =>
          { zn with queue := rest, completions := zn.completions ++ [incompatibleRecord j s.timeBase] }) :=
        h.updZone z _ (.of_same rfl rfl)
      exact recorded.of_fields rfl rfl rfl

theorem Shared.considerActivation {s : State} (h : Shared s) (z : Fin 8) : Shared (s.considerActivation z) := by
  unfold State.considerActivation
  induction (s.zone z).queue.length generalizing s with
  | zero => exact h
  | succ n ih =>
    unfold State.activations
    split
    · next hm => exact ih (h.activateHead z (Zone.active_of_mayActivate hm))
    · exact h

theorem Shared.enqueue {s : State} (h : Shared s) (z : Fin 8) (j : Job) : Shared (s.enqueue z j) := by
  have joined : Shared (s.updZone z fun zn => { zn with queue := zn.queue ++ [j] }) := h.updZone z _ (.of_same rfl rfl)
  have claimed : Shared ((s.updZone z fun zn => { zn with queue := zn.queue ++ [j] }).addUse j.template) :=
    joined.of_fields rfl rfl rfl
  exact claimed.considerActivation z

theorem Shared.takeHead {s : State} (h : Shared s) (z : Fin 8) : Shared (s.takeHead z) :=
  Shared.considerActivation (h.updZone z (fun zn => { zn with completions := zn.completions.tail }) (.of_same rfl rfl)) z

/-! ### Changes that keep the seat -/

/-- The active job changes in nothing that the shared blocks see. -/
theorem Shared.updActive {s : State} (h : Shared s) (z : Fin 8) (f : ActiveJob → ActiveJob)
    (hf : ∀ a, (f a).play.isSome = a.play.isSome ∧ (f a).binding = a.binding) : Shared (s.updActive z f) := by
  refine h.updZone z _ ⟨?_, fun _ => rfl⟩
  cases ha : (s.zone z).active with
  | none => simp [Zone.seat, ha]
  | some a => simp [Zone.seat, ha, hf]

/-- A granted job moves on in its frames. -/
theorem Shared.setPlay {s : State} (h : Shared s) (z : Fin 8) (hp : (s.zone z).plays) (p : PlayState) :
    Shared (s.setPlay z p) := by
  obtain ⟨a, q, ha, hq⟩ := hp
  exact h.updZone z (fun zn => { zn with active := zn.active.map fun a => { a with play := some p } })
    ⟨by simp [Zone.seat, ha, hq], fun _ => rfl⟩

theorem State.plays_setPlay {s : State} {z : Fin 8} (hp : (s.zone z).plays) (p : PlayState) :
    ((s.setPlay z p).zone z).plays := by
  obtain ⟨a, q, ha, hq⟩ := hp
  exact ⟨{ a with play := some p }, p, by simp [State.setPlay, State.updActive, ha], rfl⟩

/-- The next frame of a granted job starts. -/
theorem Shared.startFrame {s : State} (h : Shared s) (z : Fin 8) (hp : (s.zone z).plays) : Shared (s.startFrame z) := by
  obtain ⟨a, q, ha, hq⟩ := hp
  unfold State.startFrame
  rw [ha]
  exact h.updZone z _ ⟨by simp [Zone.seat, ha, hq], fun _ => rfl⟩

theorem Zone.Alike.emit (zn : Zone) (now stop : Nat) : (zn.emit now stop).Alike zn := by
  unfold Zone.emit; split <;> exact .of_same rfl rfl

/-- Moving a gate changes what its output emits, and that alone. -/
theorem State.alike_gateMoved (s : State) (z : Fin 8) (wasOpen : Bool) :
    ((s.gateMoved z wasOpen).zone z).Alike (s.zone z) := by
  have hself : (s.gateMoved z wasOpen).zone z = { s.zone z with
      emission := gateEmission (s.zone z) (s.boundWave z) s.ticks wasOpen (s.zone z).gateOpen } := by
    rw [State.gateMoved_eq]; simp [State.regated, State.zone]
  rw [hself]; exact .of_same rfl rfl

theorem Shared.gateMoved {s : State} (h : Shared s) (z : Fin 8) (wasOpen : Bool) : Shared (s.gateMoved z wasOpen) := by
  refine h.of_alike (fun y => ?_) (by simp) (by simp) (by simp)
  by_cases hy : y = z
  · subst hy; exact State.alike_gateMoved s y wasOpen
  · rw [State.zone_gateMoved_ne s wasOpen hy]; exact .of_same rfl rfl

theorem Shared.cutOutput {s : State} (h : Shared s) (z : Fin 8) : Shared (s.cutOutput z) := h.updZone z _ (.of_same rfl rfl)

theorem Zone.Alike.faulted (zn : Zone) (k : FaultKind) : (zn.faulted k).Alike zn := by cases k <;> exact .of_same rfl rfl

theorem Shared.advance {s : State} (h : Shared s) (instant : Nat) : Shared (s.advance instant) := h.of_fields rfl rfl rfl

/-! ### Playback, driver faults -/

theorem Shared.sense {s : State} (h : Shared s) (z : Fin 8) : Shared (s.sense z) := by
  unfold State.sense
  split
  · split
    · next k _ =>
      have ended := (h.cutOutput z).endJob z .fault s.timeBase
      exact (ended.updZone z (fun zn => zn.faulted k) (.faulted ..)).of_fields rfl rfl rfl
    · exact h
  · exact h

theorem Shared.decideAgain {s : State} (h : Shared s) (z : Fin 8) : Shared (s.decideAgain z) := by
  unfold State.decideAgain
  split
  · exact h
  split
  · exact h
  split
  · exact h
  split
  · exact h
  · exact (h.endJob z _ _).considerActivation z

theorem Shared.frameEnd {s : State} (h : Shared s) (z : Fin 8) (hp : (s.zone z).plays) (a : ActiveJob) (p : PlayState) :
    Shared (s.frameEnd z a p) := by
  have ended (q : PlayState) : Shared (s.setPlay z q) := h.setPlay z hp q
  have again (q : PlayState) : Shared ((s.setPlay z q).startFrame z) := (ended q).startFrame z (State.plays_setPlay hp q)
  unfold State.frameEnd
  split
  · exact (h.endJob z _ _).considerActivation z
  · dsimp only
    split
    · exact again _
    split
    · exact again _
    · exact ended _

theorem Shared.phaseOver {s : State} (h : Shared s) (z : Fin 8) (hp : (s.zone z).plays) (a : ActiveJob) (p : PlayState) :
    Shared (s.phaseOver z a p) := by
  unfold State.phaseOver
  split
  · exact h.setPlay z hp _
  · exact h.frameEnd z hp a p

theorem Shared.phaseEnd {s : State} (h : Shared s) (z : Fin 8) : Shared (phaseEnd z s) := by
  unfold Machine.phaseEnd
  split
  · exact h
  next a ha =>
  split
  · exact h
  next p hp =>
  split
  · exact h
  · exact (((h.advance _).phaseOver z ⟨a, p, ha, hp⟩ a p).gateMoved z _).sense z

theorem Shared.frameTimerExpiry {s : State} (h : Shared s) (z : Fin 8) : Shared (frameTimerExpiry z s) := by
  unfold Machine.frameTimerExpiry
  split
  · exact h
  next a ha =>
  split
  · exact h
  next p hp =>
  split
  · exact (((h.advance _).startFrame z ⟨a, p, ha, hp⟩).gateMoved z _).sense z
  · exact h

theorem Shared.driverReport {s : State} (h : Shared s) (z : Fin 8) (report : Condition) :
    Shared (driverReport z report s) := by
  have k : Shared { s with pins := { s.pins with zsense := s.pins.zsense.set z report } } := h.of_fields rfl rfl rfl
  unfold Machine.driverReport
  dsimp only
  split
  · exact k
  · exact k.sense z

/-! ### The grant walk -/

/-- R67: once a waiting zone has obtained its carrier from `g`, the zones each generator serves are those it served, and
the zone joins those of `g`. -/
theorem Shared.pool_obtain {s : State} (h : Shared s) {z : Fin 8} (hw : (s.zone z).waits) (g k : Fin 4) (c : Setting) :
    ((s.obtain g c z).generator k).Serves fun y => y = z ∧ some g = some k ∨ (s.zone y).holdsCarrier k := by
  have hunused : ¬ (s.zone z).holdsCarrier k := fun hheld => Zone.not_plays_of_waits hw hheld.1
  by_cases hk : k = g
  · subst hk
    rw [State.obtain, State.generator_setGenerator_self]
    simp only [and_true]
    split
    · next hrun => exact (h.pool k).share hrun hunused
    · next hfree => exact (h.pool k).begin hfree c z s.ticks
  · rw [State.obtain, State.generator_setGenerator_ne s _ hk]
    exact (h.pool k).congr fun y => by simp [Ne.symm hk]

/-- A waiting zone that has met the conditions of R52 is granted, with the generators as they stand once it has its carrier. -/
theorem Shared.grant {s : State} (h : Shared s) {z : Fin 8} (hw : (s.zone z).waits)
    (hfree : s.arbiter.groupFree (s.zone z).config.group = true) (gens : Vector Generator 4) (binding : Option (Fin 4))
    (hpool : ∀ g : Fin 4, Generator.Serves gens[g] fun y => y = z ∧ binding = some g ∨ (s.zone y).holdsCarrier g) :
    Shared (State.grant { s with generators := gens } z binding) := by
  have ⟨a, ha, _⟩ := hw
  obtain ⟨p, -, hgrant⟩ := State.grant_eq ha gens binding
  rw [hgrant]
  have hself := State.zone_seated_regated s z gens ({ a with binding := binding }.begun s.timeBase p)
  exact h.granted hw ((Arbiter.groupFree_iff ..).mp hfree) (by rw [hself]; rfl) (by rw [hself])
    (fun y hy => State.zone_seated_regated_ne s gens _ hy) rfl hpool

theorem Shared.visit {s : State} (h : Shared s) {z : Fin 8} (hw : (s.zone z).waits) : Shared (s.visit z) := by
  have ⟨a, ha, _⟩ := hw
  by_cases hmay : (s.arbiter.admits z && s.arbiter.groupFree (s.zone z).config.group) = true
  · have hfree := (Bool.and_eq_true_iff.mp hmay).2
    cases hc : (s.template a.job.template).carrier with
    | none =>
      rw [State.visit_baseband ha hmay hc]
      exact h.grant hw hfree s.generators none fun g => (h.pool g).congr fun y => by simp
    | some c =>
      cases hg : s.obtainable c with
      | none => rw [State.visit_no_carrier ha hc hg]; exact h
      | some g =>
        rw [State.visit_obtains ha hmay hc hg]
        exact h.grant hw hfree (s.obtain g c z).generators (some g) fun k => h.pool_obtain hw g k c
  · rw [State.visit_passed ha (Bool.not_eq_true _ ▸ hmay)]; exact h

theorem State.zone_visit_ne (s : State) {y z : Fin 8} (hy : y ≠ z) : (s.visit z).zone y = s.zone y := by
  have granted (u : State) (binding : Option (Fin 4)) : (u.grant z binding).zone y = u.zone y := by
    simp only [State.grant, State.zone_gateMoved_ne _ _ hy, State.zone_startFrame_ne _ hy, State.updActive,
      State.zone_updZone_ne _ _ hy]
    rfl
  unfold State.visit
  split
  · rfl
  split
  · split
    · exact granted s none
    split
    · rfl
    · exact granted (s.obtain _ _ z) _
  · rfl

/-- R52, R53: each zone of the list is visited once, and waits when its turn comes. -/
theorem Shared.walk {s : State} (h : Shared s) {order : List (Fin 8)} (hnodup : order.Nodup)
    (hw : ∀ z ∈ order, (s.zone z).waits) : Shared (s.walk order) := by
  induction order generalizing s with
  | nil => exact h
  | cons z rest ih =>
    obtain ⟨hnew, hrest⟩ := List.nodup_cons.mp hnodup
    refine ih (h.visit (hw z List.mem_cons_self)) hrest fun y hy => ?_
    have hne : y ≠ z := ne_of_mem_of_not_mem hy hnew
    rw [State.zone_visit_ne s hne]
    exact hw y (List.mem_cons_of_mem z hy)

theorem Shared.slotBoundary {s : State} (h : Shared s) : Shared (slotBoundary s) := by
  have next : Shared s.nextSlot := h.of_alike (fun _ => .of_same rfl rfl) rfl rfl rfl
  unfold Machine.slotBoundary
  split
  · exact h
  · have walked : Shared (s.nextSlot.walk s.arbiter.waiting) := next.walk h.listed fun z hz => (h.waiting z).mp hz
    exact List.foldlRecOn _ _ walked fun _ k z _ => k.sense z

/-! ### The halves of a generator -/

/-- R66: the next half of a running generator. -/
theorem Shared.setWave {s : State} (h : Shared s) {g : Fin 4} (hrun : (s.generator g).wave.isSome) (w : Wave) :
    Shared (s.setGenerator g { s.generator g with wave := some w }) := by
  refine ⟨h.listed, h.waiting, h.locks, h.unbound, fun k => ?_⟩
  rw [State.generator_setGenerator]
  split
  · next hk => subst hk; exact (h.pool k).setWave hrun w
  · exact h.pool k

theorem Zone.Alike.highBegins (g : Fin 4) (now stop : Nat) (zn : Zone) : (zn.highBegins g now stop).Alike zn := by
  unfold Zone.highBegins; split
  · exact .emit ..
  · exact .of_same rfl rfl

theorem Zone.Alike.highEnds (g : Fin 4) (now : Nat) (zn : Zone) : (zn.highEnds g now).Alike zn := by
  unfold Zone.highEnds; split <;> exact .of_same rfl rfl

theorem Shared.highHalfStart {s : State} (h : Shared s) (g : Fin 4) : Shared (highHalfStart g s) := by
  unfold Machine.highHalfStart
  split
  · next w _ hw _ =>
    split
    · exact h
    · exact ((h.advance w.stop).setWave (g := g) (Option.isSome_of_eq_some hw) _).mapZones _ (.highBegins g _ _) rfl rfl rfl
  · exact h

theorem Shared.highHalfEnd {s : State} (h : Shared s) (owner : HalfOwner) : Shared (highHalfEnd owner s) := by
  cases owner with
  | generator g =>
    simp only [Machine.highHalfEnd]
    split
    · next w _ hw _ =>
      split
      · exact ((h.advance w.stop).setWave (g := g) (Option.isSome_of_eq_some hw) _).mapZones _ (.highEnds g _) rfl rfl rfl
      · exact h
    · exact h
  | driver z =>
    simp only [Machine.highHalfEnd]
    split
    · exact (h.advance _).cutOutput z
    · exact h

end Sys2Proof.Machine
end

section
/-! The requests and the events keep the shared blocks in agreement, and so does every step. -/
namespace Sys2Proof.Machine

/-! ### Release, cancel and flush -/

theorem Shared.releaseQueued {s : State} (h : Shared s) (z : Fin 8) (tag : Half) : Shared (s.releaseQueued z tag) :=
  h.updZone z _ (.of_same rfl rfl)

theorem Shared.release {s : State} (h : Shared s) (z : Fin 8) (tag : Half) : Shared (s.release z tag).state := by
  unfold State.release
  split
  · exact h
  split
  · exact Shared.decideAgain
      (h.updActive z (fun a => { a with job := { a.job with released := true } }) fun _ => ⟨rfl, rfl⟩) z
  split
  · exact h.releaseQueued z tag
  · exact (s.releaseAgain_state z tag).symm ▸ h

theorem Shared.cancelNow {s : State} (h : Shared s) (z : Fin 8) : Shared (s.cancelNow z) :=
  ((h.endJob z _ _).gateMoved z _).considerActivation z

theorem Shared.cancelLater {s : State} (h : Shared s) (z : Fin 8) : Shared (s.cancelLater z) :=
  h.updActive z (fun a => { a with cancelAfterFrame := true }) fun _ => ⟨rfl, rfl⟩

theorem Shared.cancelActive {s : State} (h : Shared s) (z : Fin 8) (a : ActiveJob) (mode : CancelMode) :
    Shared (s.cancelActive z a mode).state := by
  unfold State.cancelActive
  split
  · split
    · exact h
    · exact h.cancelLater z
  · exact h.cancelNow z

theorem Shared.dropQueued {s : State} (h : Shared s) (z : Fin 8) (j : Job) : Shared (s.dropQueued z j) := by
  have left : Shared (s.updZone z fun zn => { zn with queue := zn.queue.eraseP fun q => decide (q.tag = j.tag) }) :=
    h.updZone z _ (.of_same rfl rfl)
  exact left.of_fields rfl rfl rfl

theorem Shared.jobCancel {s : State} (h : Shared s) (zone : Byte) (tag : Half) (mode : Byte) :
    Shared (jobCancel zone tag mode s).state := by
  unfold Machine.jobCancel
  split
  · split
    · exact h
    split
    · exact h.dropQueued ..
    · exact h.cancelActive ..
    · exact h
  · exact h

theorem Shared.dropQueue {s : State} (h : Shared s) (z : Fin 8) : Shared (s.dropQueue z) := by
  have dropped : Shared (s.dropUses (s.zone z).queue) := h.of_fields (by simp) (by simp) (by simp)
  exact dropped.updZone z _ (.of_same rfl rfl)

theorem Shared.zoneFlush {s : State} (h : Shared s) (zone action : Byte) : Shared (zoneFlush zone action s).state := by
  unfold Machine.zoneFlush State.flushActive
  split
  · next z _ _ _ =>
    have dropped := h.dropQueue z
    split
    · exact h
    dsimp only
    split
    · exact dropped
    split
    · exact dropped
    split
    · exact dropped.cancelLater z
    · exact dropped.cancelNow z
  · exact h

/-! ### FAULT CLEAR, ZONE RESET and the quiet time -/

theorem Shared.faultClear {s : State} (h : Shared s) (zone : Byte) : Shared (faultClear zone s).state := by
  unfold Machine.faultClear
  split
  · exact h
  split
  · exact h
  split
  · exact h
  · exact (h.updZone _ (fun zn => { zn with condition := .normal }) (.of_same rfl rfl)).considerActivation _

/-- R122: what the active job held is given back; a zone with none has nothing to give. -/
theorem Shared.resetZone {s : State} (h : Shared s) (z : Fin 8) : Shared (s.resetZone z) := by
  have hgone : ((s.resetZone z).zone z).active = none := by simp [State.resetZone, Zone.cleared, Zone.reset]
  have hne (y : Fin 8) (hy : y ≠ z) : (s.resetZone z).zone y = s.zone y := by
    have hdiscarded : (s.discardActive z).zone y = s.zone y := by simp [State.zone]
    simp [State.resetZone, hy, hdiscarded]
  cases ha : (s.zone z).active with
  | none =>
    refine h.of_alike (fun y => ?_) (by simp [State.resetZone, State.discardActive, ha])
      (by simp [State.resetZone, State.discardActive, ha]) (by simp [State.resetZone, State.discardActive, ha])
    by_cases hy : y = z
    · subst hy
      exact ⟨by rw [Zone.seat, Zone.seat, hgone, ha], by simp [ha]⟩
    · rw [hne y hy]; exact .of_same rfl rfl
  | some a =>
    exact h.leave ha hgone hne (by simp [State.resetZone, State.discardActive, ha])
      (by simp [State.resetZone, State.discardActive, ha])

theorem Shared.zoneReset {s : State} (h : Shared s) (zone : Byte) : Shared (zoneReset zone s).state := by
  unfold Machine.zoneReset
  split
  · exact h
  split
  · exact h
  · exact h.resetZone _

theorem Shared.quietTimeExpiry {s : State} (h : Shared s) (z : Fin 8) : Shared (quietTimeExpiry z s) := by
  unfold Machine.quietTimeExpiry
  split
  · exact h
  · exact (h.advance _).updZone z (fun zn => { zn with quietEnd := none }) (.of_same rfl rfl)

/-! ### Trigger lines -/

theorem Shared.updLine {s : State} (h : Shared s) (n : Fin 4) (f : Line → Line) : Shared (s.updLine n f) :=
  h.of_fields rfl rfl rfl

theorem Shared.lineSubmit {s : State} (h : Shared s) (b : Binding) (n : Fin 4) (mode : JobMode) :
    Shared (s.lineSubmit b n mode) := by
  unfold State.lineSubmit
  split
  · exact h.of_fields rfl rfl rfl
  · exact h.enqueue ..

theorem Shared.retrigger {s : State} (h : Shared s) (b : Binding) (n : Fin 4) (repeats : Nat) :
    Shared (s.retrigger b n repeats) := by
  unfold State.retrigger
  split
  · split
    · exact Shared.decideAgain (h.updActive _
        (fun a => { a with framesTarget := retriggerTarget a.framesStarted repeats }) fun _ => ⟨rfl, rfl⟩) _
    · exact h
  split
  · exact h
  · exact h.lineSubmit b n _

theorem Shared.takeLevel {s : State} (h : Shared s) (n : Fin 4) (level : Bool) : Shared (s.takeLevel n level) := by
  have k : Shared (s.updLine n fun l => { l with taken := level, debounceEnd := none }) := h.updLine n _
  unfold State.takeLevel
  dsimp only
  split
  · exact k
  split
  · split
    · unfold State.rising
      split
      · exact (k.lineSubmit _ n _).updLine n _
      · exact (k.retrigger _ n _).updLine n _
      · exact (k.lineSubmit _ n _).updLine n _
    · exact k
  · unfold State.falling
    split
    · exact (k.release _ _).updLine n _
    · exact k.updLine n _
    · exact k.updLine n _
    · exact k

theorem Shared.trigPinChange {s : State} (h : Shared s) (n : Fin 4) (level : Bool) :
    Shared (trigPinChange n level s) := by
  have k : Shared { s with pins := { s.pins with trig := s.pins.trig.set n level } } := h.of_fields rfl rfl rfl
  unfold Machine.trigPinChange State.pinMoved
  dsimp only
  split
  · exact k
  split
  · exact k.updLine n _
  split
  · exact k
  split
  · exact k.takeLevel n level
  · exact k.updLine n _

theorem Shared.debounceExpiry {s : State} (h : Shared s) (n : Fin 4) : Shared (debounceExpiry n s) := by
  unfold Machine.debounceExpiry
  split
  · exact h
  split
  · exact (h.advance _).updLine n _
  · exact (h.advance _).takeLevel n _

theorem State.bind_shared_fields (s : State) (n : Fin 4) (new : Option Binding) :
    (s.bind n new).arbiter = s.arbiter ∧ (s.bind n new).generators = s.generators := by
  cases hb : (s.line n).binding <;> cases new <;> simp [State.bind, hb]

theorem Shared.rebind {s : State} (h : Shared s) (n : Fin 4) (new : Option Binding) : Shared (s.rebind n new).state := by
  have unheld : Shared (s.unhold n) := by
    unfold State.unhold
    split
    · split
      · exact h.release _ _
      · exact h
    · exact h
  obtain ⟨-, hzones, -⟩ := (s.unhold n).bind_fields n new
  obtain ⟨harbiter, hgenerators⟩ := (s.unhold n).bind_shared_fields n new
  exact unheld.of_fields hzones harbiter hgenerators

theorem Shared.triggerBind {s : State} (h : Shared s) (line : Byte) (record : Option BindingRecord) :
    Shared (triggerBind line record s).state := by
  unfold Machine.triggerBind
  split
  · exact h
  · split
    · exact h
    · exact h.rebind _ none
  split
  · exact h
  split
  · exact h
  split
  · exact h
  · exact h.rebind _ _

/-! ### Requests of zones and jobs -/

/-- R29 check 3: the group of a zone with an active job does not change. -/
theorem Shared.zoneSetup {s : State} (h : Shared s) (zone enabled bands group dark : Byte) :
    Shared (zoneSetup zone enabled bands group dark s).state := by
  unfold Machine.zoneSetup
  split
  · next z f _ _ =>
    dsimp only
    split
    · exact h
    · next hbusy =>
      refine h.updZone z (fun zn => { zn with config := (s.zone z).config.apply f }) ⟨rfl, fun hactive => ?_⟩
      by_contra hgroup
      exact hbusy ((Zone.setupBusy_iff ..).mpr (.inr ⟨.inl hgroup, Option.isSome_iff_ne_none.mp hactive⟩))
  · exact h

theorem Shared.zoneQuery {s : State} (h : Shared s) (zone : Byte) : Shared (zoneQuery zone s).state := by
  unfold Machine.zoneQuery
  split
  · exact h
  · exact h.updZone _ (fun zn => { zn with openSeen := false, overloadSeen := false }) (.of_same rfl rfl)

theorem Shared.jobSubmit {s : State} (h : Shared s) (r : JobSubmitRecord) : Shared (jobSubmit r s).state := by
  unfold Machine.jobSubmit
  split
  · split
    · exact h
    split
    · exact h
    · exact h.enqueue ..
  · exact h

theorem Shared.jobRelease {s : State} (h : Shared s) (zone : Byte) (tag : Half) : Shared (jobRelease zone tag s).state := by
  unfold Machine.jobRelease
  split
  · exact h
  · exact h.release _ tag

theorem Shared.completionTake {s : State} (h : Shared s) (zone : Byte) : Shared (completionTake zone s).state := by
  unfold Machine.completionTake
  split
  · exact h
  split
  · exact h
  · exact h.takeHead _

theorem Shared.fetch {s : State} (h : Shared s) (n : Source) (claimed : Bool) : Shared (s.fetch n claimed).state := by
  unfold State.fetch
  split
  · exact h
  · have delivered : Shared (s.deliver n) := by
      cases n with
      | zone z => exact h.takeHead z
      | engine | fault | link | capture | trigger => exact h.of_fields rfl rfl rfl
    exact delivered.of_fields rfl rfl rfl

theorem Shared.noticeFetch {s : State} (h : Shared s) (source : Option Byte) : Shared (noticeFetch source s).state := by
  unfold Machine.noticeFetch
  split
  · split
    · exact h
    · exact h.fetch _ true
  split
  · exact h
  split
  · exact h.fetch _ _
  · exact h

/-! ### Requests that only the Code Library, the Capture Unit, the staged plan or the notices feel -/

/-- R16: the toggle bits of an index are cleared in every zone. -/
theorem Shared.clearToggles {s : State} (h : Shared s) (i : Fin 64) : Shared (s.clearToggles i) :=
  h.mapZones (fun zn => { zn with toggles := zn.toggles.set i false }) (fun _ => .of_same rfl rfl) rfl rfl rfl

theorem Shared.templateCommit {s : State} (h : Shared s) : Shared (templateCommit s).state := by
  unfold Machine.templateCommit
  split
  · exact h
  split
  · exact h
  split
  · exact h
  split
  · exact h
  · next st _ _ _ _ _ => exact (h.clearToggles st.target).of_fields rfl rfl rfl

theorem Shared.templateDelete {s : State} (h : Shared s) (index : Byte) : Shared (templateDelete index s).state := by
  unfold Machine.templateDelete
  split
  · exact h
  split
  · exact h
  split
  · exact h
  · next i _ _ _ => exact (h.clearToggles i).of_fields rfl rfl rfl

theorem Shared.templateBegin {s : State} (h : Shared s) (index : Byte) (header : TemplateHeader) :
    Shared (templateBegin index header s).state := by
  unfold Machine.templateBegin
  repeat' split
  all_goals exact h.of_fields rfl rfl rfl

theorem Shared.templateAppend {s : State} (h : Shared s) (selector : Byte) (records : List ElementRecord) :
    Shared (templateAppend selector records s).state := by
  unfold Machine.templateAppend
  repeat' split
  all_goals exact h.of_fields rfl rfl rfl

theorem Shared.templateAbandon {s : State} (h : Shared s) : Shared (templateAbandon s).state := by
  unfold Machine.templateAbandon
  split <;> exact h.of_fields rfl rfl rfl

theorem Shared.slotPlan {s : State} (h : Shared s) (length : Half) (masks : Vector Half 8) :
    Shared (slotPlan length masks s).state := by
  unfold Machine.slotPlan
  split
  · exact h
  · exact h.of_alike (fun _ => .of_same rfl rfl) rfl rfl rfl

theorem Shared.captureArm {s : State} (h : Shared s) (source zone : Byte) (startTimeout endGap maxEntries : Half) :
    Shared (captureArm source zone startTimeout endGap maxEntries s).state := by
  unfold Machine.captureArm
  repeat' split
  all_goals exact h.of_fields rfl rfl rfl

theorem Shared.noticeAck {s : State} (h : Shared s) (source : Option Byte) : Shared (noticeAck source s).state := by
  unfold Machine.noticeAck
  repeat' split
  all_goals exact h.of_fields rfl rfl rfl

theorem Shared.noticeSetup {s : State} (h : Shared s) (threshold : Byte) (entries : List SourceEntry) :
    Shared (noticeSetup threshold entries s).state := by
  unfold Machine.noticeSetup
  repeat' split
  all_goals exact h.of_fields rfl rfl rfl

theorem Shared.answer {s : State} (h : Shared s) (r : Request) : Shared (answer r s).state := by
  cases r with
  | templateCommit => exact h.templateCommit
  | templateDelete index => exact h.templateDelete index
  | templateBegin index header => exact h.templateBegin index header
  | templateAppend selector elements => exact h.templateAppend selector elements
  | templateAbandon => exact h.templateAbandon
  | zoneSetup zone enabled bands group dark => exact h.zoneSetup zone enabled bands group dark
  | zoneQuery zone => exact h.zoneQuery zone
  | zoneReset zone => exact h.zoneReset zone
  | faultClear zone => exact h.faultClear zone
  | jobSubmit record => exact h.jobSubmit record
  | jobRelease zone tag => exact h.jobRelease zone tag
  | jobCancel zone tag mode => exact h.jobCancel zone tag mode
  | zoneFlush zone action => exact h.zoneFlush zone action
  | completionTake zone => exact h.completionTake zone
  | triggerBind line binding => exact h.triggerBind line binding
  | noticeFetch source => exact h.noticeFetch source
  | slotPlan length masks => exact h.slotPlan length masks
  | captureArm source zone startTimeout endGap maxEntries => exact h.captureArm source zone startTimeout endGap maxEntries
  | captureStop => exact h.of_fields rfl rfl rfl
  | noticeAck source => exact h.noticeAck source
  | noticeSetup threshold entries => exact h.noticeSetup threshold entries
  | templateQuery index offset => exact (templateQuery_state index offset s).symm ▸ h
  | slotQuery selector => exact (slotQuery_state selector s).symm ▸ h
  | triggerQuery line => exact (triggerQuery_state line s).symm ▸ h
  | captureRead offset count => exact (captureRead_state offset count s).symm ▸ h
  | libraryQuery | carrierQuery | timeQuery | captureQuery | noticePeek | identify | engineReset => exact h

/-! ### The port -/

theorem Shared.startReply {s : State} (h : Shared s) (code : Byte) (r : Reply) : Shared (s.startReply code r) :=
  h.of_fields rfl rfl rfl

theorem Shared.setPort {s : State} (h : Shared s) (p : Port) : Shared (s.setPort p) := h.of_fields rfl rfl rfl

theorem Shared.setBuffer {s : State} (h : Shared s) (buffer : List (List Byte)) : Shared (s.setBuffer buffer) :=
  h.of_fields rfl rfl rfl

theorem Shared.handle {s : State} (h : Shared s) (seq : Byte) (r : Request) : Shared (s.handle seq r) := by
  unfold State.handle
  split
  · exact (h.answer r).startReply _ _
  · exact h.startReply _ _

theorem Shared.takeRequest {s : State} (h : Shared s) : Shared s.takeRequest := by
  unfold State.takeRequest
  split
  · exact h
  split
  · exact h
  · next body rest _ =>
    have taken := h.setBuffer rest
    unfold State.handleBody
    split
    · split
      · exact taken.handle _ _
      · exact taken.startReply _ _
      · exact taken.startReply _ _
    · exact taken

theorem Shared.offer {s : State} (h : Shared s) (body : List Byte) : Shared (s.offer body) := by
  unfold State.offer
  split
  · exact (h.setBuffer _).takeRequest
  · exact h.of_fields rfl rfl rfl

theorem Shared.request {s : State} (h : Shared s) (seq : Byte) (r : Request) : Shared (s.request seq r) := by
  unfold State.request
  split
  · exact h
  split
  · exact h.handle seq r
  · exact h.offer _

theorem Shared.assemble {s : State} (h : Shared s) (b : Byte) : Shared (s.assemble b) := by
  unfold State.assemble
  split
  · split
    · exact h.setPort _
    · exact h
  · unfold State.lengthByte; split <;> exact h.of_fields rfl rfl rfl
  · exact h.setPort _
  · exact h.setPort _
  · unfold State.lastByte
    split
    · exact (h.setPort _).offer _
    · exact h.of_fields rfl rfl rfl

theorem Shared.receiveByte {s : State} (h : Shared s) (data : Byte) (edge : CharEdge) :
    Shared (receiveByte data edge s) := by
  have idle : Shared s.rxdIdle := h.of_fields rfl rfl rfl
  unfold Machine.receiveByte
  split
  · exact h.of_fields rfl rfl rfl
  split
  · exact idle
  · exact (idle.assemble data).setPort _

theorem Shared.gapTimerExpiry {s : State} (h : Shared s) : Shared (gapTimerExpiry s) := by
  unfold Machine.gapTimerExpiry
  repeat' split
  all_goals exact h.of_fields rfl rfl rfl

/-! ### Reset -/

theorem Shared.beginReset (s : State) (cause : ResetCause) : Shared (s.beginReset cause) :=
  .of_reset (fun z => ⟨(s.zone z).config.strap, by simp [State.beginReset, State.zone]⟩) rfl rfl

theorem Shared.release? {s : State} (h : Shared s) : Shared s.release? := by
  unfold State.release?
  split
  · exact h
  · next cause _ =>
    have released : Shared (State.released s.pins cause s.freeCount s.pending) :=
      .of_reset (fun z => ⟨_, State.zone_released ..⟩) rfl rfl
    exact released.of_fields rfl rfl rfl

theorem Shared.supplyRise {s : State} (h : Shared s) : Shared (supplyRise s) := by
  unfold Machine.supplyRise
  split
  · exact (Shared.beginReset s .power).of_fields rfl rfl rfl
  · exact h

theorem Shared.supplyStable {s : State} (h : Shared s) : Shared (supplyStable s) := by
  have k : Shared { s with supply := .stable } := h.of_fields rfl rfl rfl
  unfold Machine.supplyStable
  split
  · dsimp only
    split
    · exact k.release?
    · exact k
  · exact h

theorem Shared.supplyFailure {s : State} (h : Shared s) : Shared (supplyFailure s) := by
  unfold Machine.supplyFailure
  split
  · exact h
  · exact (Shared.beginReset s .power).of_fields rfl rfl rfl

theorem Shared.resetNLow {s : State} (h : Shared s) : Shared (resetNLow s) := by
  unfold Machine.resetNLow
  dsimp only
  split
  · exact Shared.beginReset _ _
  · exact h.of_fields rfl rfl rfl

theorem Shared.resetNHigh {s : State} (h : Shared s) : Shared (resetNHigh s) := by
  have k : Shared { s with pins := { s.pins with resetN := true } } := h.of_fields rfl rfl rfl
  unfold Machine.resetNHigh
  dsimp only
  split
  · exact k.release?
  · exact k

theorem Shared.requestResetExpiry {s : State} (h : Shared s) : Shared (requestResetExpiry s) := by
  unfold Machine.requestResetExpiry
  split
  · exact (h.advance _).release?
  · exact h

theorem Shared.replySent {s : State} (h : Shared s) : Shared (replySent s) := by
  unfold Machine.replySent
  split
  · exact h
  split
  · exact Shared.beginReset _ _
  · exact Shared.takeRequest (h.of_fields rfl rfl rfl)

/-! ### Capture -/

theorem Shared.putSession {s : State} (h : Shared s) (c : Session) : Shared (s.putSession c) := by
  unfold State.putSession
  split <;> exact h.of_fields rfl rfl rfl

theorem Shared.capdEdge {s : State} (h : Shared s) (level : Bool) : Shared (capdEdge level s) := by
  have k : Shared { s with pins := { s.pins with capd := level } } := h.of_fields rfl rfl rfl
  unfold Machine.capdEdge
  dsimp only
  split
  · exact k
  split
  · exact k
  split
  · exact k.putSession _
  · exact k

theorem Shared.moveInput {s : State} (h : Shared s) (input : EdgeInput) (level : Bool) :
    Shared (s.moveInput input level) := by
  cases input with
  | capc => exact h.of_fields rfl rfl rfl
  | loopback => exact h

theorem Shared.captureRisingEdge {s : State} (h : Shared s) (input : EdgeInput) : Shared (captureRisingEdge input s) := by
  have k := h.moveInput input true
  unfold Machine.captureRisingEdge
  dsimp only
  split
  · exact k
  split
  · exact k.putSession _
  · exact k

theorem Shared.captureFallingEdge {s : State} (h : Shared s) (input : EdgeInput) : Shared (captureFallingEdge input s) := by
  have k := h.moveInput input false
  unfold Machine.captureFallingEdge
  dsimp only
  split
  · exact k
  split
  · exact k.putSession _
  · exact k

theorem Shared.markEndTimeout {s : State} (h : Shared s) : Shared (markEndTimeout s) := by
  unfold Machine.markEndTimeout
  split
  · exact h
  split
  · split
    · exact h
    · exact (h.advance _).putSession _
  · exact h

/-- The timers of a session that end no mark change the session and its latch alone. -/
theorem Shared.sessionTimers {s : State} (h : Shared s) : Shared (initialSpaceRecognised s)
    ∧ Shared (startTimeoutExpiry s) ∧ Shared (endGapExpiry s) ∧ Shared (stuckMark s) := by
  refine ⟨?_, ?_, ?_, ?_⟩
  · unfold Machine.initialSpaceRecognised
    repeat' split
    all_goals exact h.of_fields rfl rfl rfl
  · unfold Machine.startTimeoutExpiry
    repeat' split
    all_goals exact h.of_fields rfl rfl rfl
  · unfold Machine.endGapExpiry
    repeat' split
    all_goals exact h.of_fields rfl rfl rfl
  · unfold Machine.stuckMark
    repeat' split
    all_goals exact h.of_fields rfl rfl rfl

/-! ### Every command and every step -/

/-- Every command answers a next state that keeps the agreement. -/
theorem Shared.exec {s : State} (h : Shared s) (c : Instr) : ∃ t, exec c s = .next t ∧ Shared t := by
  obtain ⟨initialSpace, startTimeout, endGap, stuck⟩ := h.sessionTimers
  cases hc : requestOf c with
  | some qr => exact ⟨_, exec_request hc s, h.request _ _⟩
  | none =>
    cases c with
    | receiveByte data edge => exact ⟨_, rfl, h.receiveByte data edge⟩
    | gapTimerExpiry => exact ⟨_, rfl, h.gapTimerExpiry⟩
    | replySent => exact ⟨_, rfl, h.replySent⟩
    | supplyRise => exact ⟨_, rfl, h.supplyRise⟩
    | supplyStable => exact ⟨_, rfl, h.supplyStable⟩
    | supplyFailure => exact ⟨_, rfl, h.supplyFailure⟩
    | resetNLow => exact ⟨_, rfl, h.resetNLow⟩
    | resetNHigh => exact ⟨_, rfl, h.resetNHigh⟩
    | requestResetExpiry => exact ⟨_, rfl, h.requestResetExpiry⟩
    | slotBoundary => exact ⟨_, rfl, h.slotBoundary⟩
    | phaseEnd z => exact ⟨_, rfl, h.phaseEnd z⟩
    | frameTimerExpiry z => exact ⟨_, rfl, h.frameTimerExpiry z⟩
    | quietTimeExpiry z => exact ⟨_, rfl, h.quietTimeExpiry z⟩
    | driverFault z report => exact ⟨_, rfl, h.driverReport z report⟩
    | trigPinChange line level => exact ⟨_, rfl, h.trigPinChange line level⟩
    | debounceExpiry line => exact ⟨_, rfl, h.debounceExpiry line⟩
    | capdEdge level => exact ⟨_, rfl, h.capdEdge level⟩
    | captureRisingEdge input => exact ⟨_, rfl, h.captureRisingEdge input⟩
    | captureFallingEdge input => exact ⟨_, rfl, h.captureFallingEdge input⟩
    | markEndTimeout => exact ⟨_, rfl, h.markEndTimeout⟩
    | startTimeoutExpiry => exact ⟨_, rfl, startTimeout⟩
    | endGapExpiry => exact ⟨_, rfl, endGap⟩
    | stuckMark => exact ⟨_, rfl, stuck⟩
    | highHalfStart g => exact ⟨_, rfl, h.highHalfStart g⟩
    | highHalfEnd owner => exact ⟨_, rfl, h.highHalfEnd owner⟩
    | initialSpaceRecognised => exact ⟨_, rfl, initialSpace⟩
    | _ => cases hc

theorem Shared.idle {s : State} (h : Shared s) : Shared s.idle := by
  unfold State.idle State.choose
  repeat' split
  all_goals exact h.of_fields rfl rfl rfl

/-- Settles O58: the three laws are one predicate of list, locks and pool, and every step keeps it. -/
theorem stepKeepsSharedResources : Obligations.StepKeepsSharedResources := by
  intro s t hwaiting hlocks hpool hstep
  have h : Shared s := (shared_iff s).mpr ⟨hwaiting, hlocks, hpool⟩
  refine (shared_iff t).mp ?_
  unfold Machine.step at hstep
  split at hstep
  · cases hstep; exact h.idle
  · next c rest _ =>
    have k : Shared { s with pending := rest } := h.of_fields rfl rfl rfl
    obtain ⟨u, hu, hshared⟩ := k.exec c
    rw [hu] at hstep
    cases hstep
    exact hshared

end Sys2Proof.Machine
end

section
/-! The part's own events (logs 2 and 4): which timers end now, block by block, and what an idle step makes of them. -/
namespace Sys2Proof.Machine

/-! ### The ends of timers -/

/-- One of these timers ends by now with this event. -/
def Ends (timers : List Timer) (now : Nat) (e : Instr) : Prop := ∃ t ∈ timers, t.deadline ≤ now ∧ t.event = e

section
variable (now : Nat) (e : Instr)

theorem ends_append (as bs : List Timer) : Ends (as ++ bs) now e ↔ Ends as now e ∨ Ends bs now e := by
  simp [Ends, or_and_right, exists_or]

theorem ends_cons (deadline : Nat) (event : Instr) (rest : List Timer) :
    Ends (⟨deadline, event⟩ :: rest) now e ↔ (e = event ∧ deadline ≤ now) ∨ Ends rest now e := by
  simp [Ends, eq_comm (a := e), and_comm (a := deadline ≤ now)]

theorem ends_nil : ¬ Ends [] now e := by simp [Ends]

theorem ends_ite (c : Prop) [Decidable c] (l : List Timer) : Ends (if c then l else []) now e ↔ c ∧ Ends l now e := by
  split
  · next h => rw [and_iff_right h]
  · next h => exact iff_of_false (ends_nil now e) fun hboth => h hboth.1

theorem ends_one (deadline : Nat) (event : Instr) : Ends [⟨deadline, event⟩] now e ↔ e = event ∧ deadline ≤ now := by
  simp [Ends, eq_comm, and_comm]

theorem ends_flatMap {α : Type} (l : List α) (f : α → List Timer) :
    Ends (l.flatMap f) now e ↔ ∃ x ∈ l, Ends (f x) now e := by
  simp only [Ends, List.mem_flatMap]
  exact ⟨fun ⟨t, ⟨x, hx, ht⟩, hend⟩ => ⟨x, hx, t, ht, hend⟩, fun ⟨x, hx, t, ht, hend⟩ => ⟨t, ⟨x, hx, ht⟩, hend⟩⟩

theorem ends_timer? (deadline : Option Nat) (event : Instr) :
    Ends (timer? deadline event) now e ↔ e = event ∧ ∃ d, deadline = some d ∧ d ≤ now := by
  cases deadline <;> simp [Ends, timer?, eq_comm, and_comm]

end

theorem State.mem_due (s : State) (e : Instr) : e ∈ s.due ↔ Ends s.timers s.ticks e := by
  simp [State.due, Ends, and_assoc]

/-! ### The timers of each block -/

/-- R81. -/
theorem Zone.phaseStop_le (zn : Zone) (now : Nat) : (∃ d, zn.phaseStop = some d ∧ d ≤ now) ↔
    ∃ a p ph, zn.active = some a ∧ a.play = some p ∧ p.phase = some ph ∧ ph.start + ph.duration * 8 ≤ now := by
  simp [Zone.phaseStop, Zone.phase, Phase.stop, Option.bind_eq_some_iff, and_assoc, Config.ticksPerUs]

/-- R88. -/
theorem Zone.frameDeadline_le (zn : Zone) (now : Nat) : (∃ d, zn.frameDeadline = some d ∧ d ≤ now) ↔
    ∃ a p d, zn.active = some a ∧ a.play = some p ∧ p.phase = none ∧ p.deadline = some d ∧ d ≤ now := by
  have hdeadline (d : Nat) : zn.frameDeadline = some d ↔
      ∃ a p, zn.active = some a ∧ a.play = some p ∧ p.phase = none ∧ p.deadline = some d := by
    simp [Zone.frameDeadline, Option.bind_eq_some_iff]
  simp only [hdeadline]
  exact ⟨fun ⟨d, ⟨a, p, ha, hp, hphase, hd⟩, hle⟩ => ⟨a, p, d, ha, hp, hphase, hd, hle⟩,
    fun ⟨a, p, d, ha, hp, hphase, hd, hle⟩ => ⟨d, ⟨a, p, ha, hp, hphase, hd⟩, hle⟩⟩

/-- R70: the driver's own event, unless the half that the zone's generator runs ends both. -/
theorem State.emissionStop_le (s : State) (z : Fin 8) (now : Nat) : (∃ d, s.emissionStop z = some d ∧ d ≤ now) ↔
    ∃ out, (s.zone z).emission = some out ∧ out.stop ≤ now
      ∧ ∀ w, s.boundWave z = some w → ¬ (w.high = true ∧ w.stop = out.stop) := by
  cases he : (s.zone z).emission with
  | none => simp [State.emissionStop, he]
  | some out =>
    have hwave : s.emissionStop z = match s.boundWave z with
        | none => some out.stop
        | some w => if w.high && decide (w.stop = out.stop) then none else some out.stop := by
      rw [State.emissionStop, he]; rfl
    rw [hwave]
    cases hw : s.boundWave z with
    | none => simp
    | some w =>
      by_cases hsame : w.high = true ∧ w.stop = out.stop
      · simp [hsame]
      · simp only [Option.some.injEq, forall_eq', exists_eq_left', and_iff_left hsame]
        rw [if_neg (by simpa using hsame)]
        simp

theorem State.ends_zoneTimers (s : State) (z : Fin 8) (now : Nat) (e : Instr) : Ends (s.zoneTimers z) now e ↔
    (e = .phaseEnd z ∧ ∃ a p ph, (s.zone z).active = some a ∧ a.play = some p ∧ p.phase = some ph
        ∧ ph.start + ph.duration * 8 ≤ now)
      ∨ (e = .frameTimerExpiry z ∧ ∃ a p d, (s.zone z).active = some a ∧ a.play = some p ∧ p.phase = none
        ∧ p.deadline = some d ∧ d ≤ now)
      ∨ (e = .quietTimeExpiry z ∧ ∃ d, (s.zone z).quietEnd = some d ∧ d ≤ now)
      ∨ (e = .highHalfEnd (.driver z) ∧ ∃ out, (s.zone z).emission = some out ∧ out.stop ≤ now
        ∧ ∀ w, s.boundWave z = some w → ¬ (w.high = true ∧ w.stop = out.stop)) := by
  rw [State.zoneTimers, ends_append, ends_append, ends_append, or_assoc, or_assoc]
  simp only [ends_timer?, Zone.phaseStop_le, Zone.frameDeadline_le, State.emissionStop_le]

theorem State.ends_generatorTimers (s : State) (g : Fin 4) (now : Nat) (e : Instr) : Ends (s.generatorTimers g) now e ↔
    (e = .highHalfStart g ∧ ∃ w, (s.generator g).wave = some w ∧ w.high = false ∧ w.stop ≤ now)
      ∨ (e = .highHalfEnd (.generator g) ∧ ∃ w, (s.generator g).wave = some w ∧ w.high = true ∧ w.stop ≤ now) := by
  unfold State.generatorTimers
  cases hw : (s.generator g).wave with
  | none => simp [ends_nil]
  | some w => cases hhigh : w.high <;> simp [ends_one, hhigh]

theorem State.ends_portTimers (s : State) (now : Nat) (e : Instr) : Ends s.portTimers now e ↔
    (e = .gapTimerExpiry ∧ s.pins.rxdBusy = false ∧ ∃ d, s.port.gapEnd = some d ∧ d ≤ now)
      ∨ (e = .replySent ∧ ∃ h, s.port.handling = some h ∧ h.endsAt ≤ now) := by
  have hbusy : (if s.pins.rxdBusy then [] else timer? s.port.gapEnd .gapTimerExpiry) =
      if s.pins.rxdBusy = false then timer? s.port.gapEnd .gapTimerExpiry else [] := by cases s.pins.rxdBusy <;> rfl
  rw [State.portTimers, hbusy, ends_append, ends_ite, ends_timer?, ends_timer?]
  simp [and_left_comm]

theorem Session.ends_timers (c : Session) (now : Nat) (e : Instr) : Ends c.timers now e ↔
    (e = .startTimeoutExpiry ∧ c.state = .armed ∧ c.timeoutAt ≤ now)
      ∨ (e = .initialSpaceRecognised ∧ ∃ t, c.former = .initial (some t) ∧ t + 160 * 8 ≤ now)
      ∨ (e = .endGapExpiry ∧ c.state = .recording ∧ ∃ t, c.former = .space (some t) ∧ t + c.endGap * 8 ≤ now)
      ∨ (e = .stuckMark ∧ c.state = .recording
        ∧ ∃ start last fall, c.former = .mark start last fall ∧ start + 250000 * 8 ≤ now)
      ∨ (e = .markEndTimeout ∧ c.source ≠ .capd
        ∧ ∃ start last fall, c.former = .mark start last (some fall) ∧ last + 160 * 8 ≤ now) := by
  rw [Session.timers, ends_append, ends_ite, ends_one, and_left_comm]
  refine or_congr_right ?_
  cases hformer : c.former with
  | initial low => cases low <;> simp [ends_one, ends_nil, Config.windowTicks]
  | space since => cases since <;> simp [ends_ite, ends_one, ends_nil, Config.ticksPerUs, and_left_comm]
  | mark start last fall =>
    rw [ends_append, ends_ite, ends_ite, ends_one, ends_one]
    simp [Option.isSome_iff_exists, Config.stuckTicks, Config.windowTicks, and_left_comm, and_assoc]

/-- R142: only a session that is ARMED or RECORDING has timers. -/
theorem State.ends_sessionTimers (s : State) (now : Nat) (e : Instr) :
    Ends (s.runningSession.elim [] Session.timers) now e ↔
      (e = .startTimeoutExpiry ∧ ∃ c, s.capture = some c ∧ c.state = .armed ∧ c.timeoutAt ≤ now)
      ∨ (e = .initialSpaceRecognised ∧ ∃ c t, s.capture = some c ∧ c.isRunning ∧ c.former = .initial (some t)
        ∧ t + 160 * 8 ≤ now)
      ∨ (e = .endGapExpiry ∧ ∃ c t, s.capture = some c ∧ c.state = .recording ∧ c.former = .space (some t)
        ∧ t + c.endGap * 8 ≤ now)
      ∨ (e = .stuckMark ∧ ∃ c start last fall, s.capture = some c ∧ c.state = .recording
        ∧ c.former = .mark start last fall ∧ start + 250000 * 8 ≤ now)
      ∨ (e = .markEndTimeout ∧ ∃ c start last fall, s.capture = some c ∧ c.isRunning ∧ c.source ≠ .capd
        ∧ c.former = .mark start last (some fall) ∧ last + 160 * 8 ≤ now) := by
  cases hc : s.capture with
  | none => simp [State.runningSession, hc, ends_nil]
  | some c =>
    by_cases hr : c.isRunning
    · have hsession : s.runningSession = some c := by
        rw [State.runningSession, hc, Option.filter_some_pos]
        simpa [Session.running] using hr
      simp [hsession, Session.ends_timers, hr]
    · have hsession : s.runningSession = none := by
        rw [State.runningSession, hc, Option.filter_some_neg]
        simpa [Session.running] using hr
      obtain ⟨harmed, hrecording⟩ := not_or.mp hr
      simp [hsession, ends_nil, harmed, hrecording]

/-- While no reset is asserted every block's timers run. -/
theorem State.ends_timers {s : State} (hreset : s.assertedReset = none) (now : Nat) (e : Instr) : Ends s.timers now e ↔
    (e = .slotBoundary ∧ s.arbiter.slotEnd ≤ now) ∨ (∃ z, Ends (s.zoneTimers z) now e)
      ∨ (∃ g, Ends (s.generatorTimers g) now e) ∨ (∃ n, Ends (s.lineTimers n) now e) ∨ Ends s.portTimers now e
      ∨ Ends (s.runningSession.elim [] Session.timers) now e := by
  have hzones (z : Fin 8) : z ∈ allZones := by revert z; decide
  have hgenerators (g : Fin 4) : g ∈ allGenerators := by revert g; decide
  have hlines (n : Fin 4) : n ∈ allLines := by revert n; decide
  rw [State.timers, hreset]
  simp only [ends_append, ends_cons, ends_flatMap, hzones, hgenerators, hlines, true_and, or_assoc]

/-- The events that are due are those whose time has come. -/
theorem State.mem_due_iff (s : State) (e : Instr) : e ∈ s.due ↔ DueNow s e := by
  rw [State.mem_due]
  cases hreset : s.assertedReset with
  | some cause =>
    cases cause with
    | request => simp [State.timers, DueNow, hreset, ends_one, Config.requestResetTicks]
    | power | pin => simp [State.timers, DueNow, hreset, ends_nil]
  | none =>
    rw [State.ends_timers hreset]
    simp only [State.ends_zoneTimers, State.ends_generatorTimers, State.lineTimers, ends_timer?, State.ends_portTimers,
      State.ends_sessionTimers]
    constructor
    · rintro (⟨rfl, h⟩ | ⟨z, ⟨rfl, h⟩ | ⟨rfl, h⟩ | ⟨rfl, h⟩ | ⟨rfl, h⟩⟩ | ⟨g, ⟨rfl, h⟩ | ⟨rfl, h⟩⟩ | ⟨n, rfl, h⟩
        | (⟨rfl, h⟩ | ⟨rfl, h⟩) | ⟨rfl, h⟩ | ⟨rfl, h⟩ | ⟨rfl, h⟩ | ⟨rfl, h⟩ | ⟨rfl, h⟩)
      all_goals exact .inr ⟨hreset, h⟩
    · rintro (⟨hrequest, -⟩ | ⟨-, h⟩)
      · rw [hreset] at hrequest; exact nomatch hrequest
      cases e with
      | slotBoundary => exact .inl ⟨rfl, h⟩
      | phaseEnd z => exact .inr (.inl ⟨z, .inl ⟨rfl, h⟩⟩)
      | frameTimerExpiry z => exact .inr (.inl ⟨z, .inr (.inl ⟨rfl, h⟩)⟩)
      | quietTimeExpiry z => exact .inr (.inl ⟨z, .inr (.inr (.inl ⟨rfl, h⟩))⟩)
      | highHalfStart g => exact .inr (.inr (.inl ⟨g, .inl ⟨rfl, h⟩⟩))
      | highHalfEnd owner =>
        cases owner with
        | driver z => exact .inr (.inl ⟨z, .inr (.inr (.inr ⟨rfl, h⟩))⟩)
        | generator g => exact .inr (.inr (.inl ⟨g, .inr ⟨rfl, h⟩⟩))
      | debounceExpiry n => exact .inr (.inr (.inr (.inl ⟨n, rfl, h⟩)))
      | gapTimerExpiry => exact .inr (.inr (.inr (.inr (.inl (.inl ⟨rfl, h⟩)))))
      | replySent => exact .inr (.inr (.inr (.inr (.inl (.inr ⟨rfl, h⟩)))))
      | startTimeoutExpiry => exact .inr (.inr (.inr (.inr (.inr (.inl ⟨rfl, h⟩)))))
      | initialSpaceRecognised => exact .inr (.inr (.inr (.inr (.inr (.inr (.inl ⟨rfl, h⟩))))))
      | endGapExpiry => exact .inr (.inr (.inr (.inr (.inr (.inr (.inr (.inl ⟨rfl, h⟩)))))))
      | stuckMark => exact .inr (.inr (.inr (.inr (.inr (.inr (.inr (.inr (.inl ⟨rfl, h⟩))))))))
      | markEndTimeout => exact .inr (.inr (.inr (.inr (.inr (.inr (.inr (.inr (.inr ⟨rfl, h⟩))))))))
      | _ => exact h.elim

/-! ### The edge of the loopback waveform and the idle step -/

theorem State.runningSession_eq_some (s : State) (c : Session) :
    s.runningSession = some c ↔ s.capture = some c ∧ c.isRunning := by
  simp [State.runningSession, Option.filter_eq_some_iff, Session.running]

/-- R146: the edge that brings the former to the level of the waveform. -/
theorem State.loopbackEdge_eq_some (s : State) (e : Instr) : s.loopbackEdge = some e ↔ ∃ c z, s.capture = some c
    ∧ c.isRunning ∧ c.source = .loopback z
    ∧ (s.loopback z = true ∧ c.former.level = false ∧ e = .captureRisingEdge .loopback
      ∨ s.loopback z = false ∧ c.former.level = true ∧ e = .captureFallingEdge .loopback) := by
  have hcapture (c : Session) (p : Prop) : (s.capture = some c ∧ c.isRunning ∧ p) ↔ s.runningSession = some c ∧ p := by
    rw [s.runningSession_eq_some, and_assoc]
  simp only [hcapture]
  unfold State.loopbackEdge
  cases hrun : s.runningSession with
  | none => simp
  | some c =>
    cases hsource : c.source with
    | capd | capc => simp [hsource]
    | loopback z =>
      simp only [hsource, Option.some.injEq, CaptureSource.loopback.injEq, exists_eq_left', exists_and_left]
      cases hl : s.loopback z <;> cases hf : c.former.level <;> simp [eq_comm (b := e)]

/-- Log 4: what is chosen is one of the events that are due. -/
theorem State.choose_many (s : State) (e f : Instr) (rest : List Instr) :
    ∃ g ∈ e :: f :: rest, s.choose e (f :: rest) = { s with pending := [g], freeCount := s.freeCount + 1 } := by
  have hlt : Config.dueChoice s.freeCount % ((f :: rest).length + 1) < (e :: f :: rest).length :=
    Nat.mod_lt _ (Nat.succ_pos _)
  refine ⟨_, List.getElem_mem hlt, ?_⟩
  rw [State.choose, if_neg (List.cons_ne_nil f rest), List.getD_eq_getElem _ _ hlt]

theorem step_idle {s : State} (h : s.pending = []) : step s = .next s.idle := by rw [step, h]

/-- Settles O2: the branches of an idle step, then which events they are. -/
theorem idleStepTakesEventOrTick : Obligations.IdleStepTakesEventOrTick := by
  intro s hpending
  rw [step_idle hpending]
  refine ⟨fun e hdue => ?_, fun e f rest hdue => ?_, fun e hdue hedge => ?_, fun hdue hedge => ?_, s.mem_due_iff,
    s.loopbackEdge_eq_some⟩
  · rw [State.idle, hdue]; rfl
  · obtain ⟨g, hg, hchoose⟩ := s.choose_many e f rest
    rw [State.idle, hdue]
    exact ⟨g, hg, congrArg _ hchoose⟩
  · rw [State.idle, hdue, hedge]
  · rw [State.idle, hdue, hedge]; rfl

end Sys2Proof.Machine
end

section
/-!
The Carrier Pool (chapter 4): what obtaining a carrier gives, what the two halves of a generator do to the zones bound to it,
and the levels of the outputs.
-/
namespace Sys2Proof.Machine

/-! ### Obtaining a carrier (R67) -/

/-- A search through the generators ends at the lowest-numbered one of those it looks for. -/
theorem find?_allGenerators (p : Fin 4 → Bool) : allGenerators.find? p = Fin.find? p :=
  Fin.find?_eq_find?_finRange.symm

/-- R67 step 1: a RUNNING generator of the setting goes before every FREE one. -/
theorem State.obtainable_of_shareable {s : State} {c : Setting} {g : Fin 4} (hrun : (s.generator g).wave.isSome)
    (hset : (s.generator g).setting = some c) :
    ∃ h, s.obtainable c = some h ∧ (s.generator h).wave.isSome ∧ (s.generator h).setting = some c := by
  unfold State.obtainable
  split
  · next h hfind =>
    have hfound := List.find?_some hfind
    rw [Bool.and_eq_true, decide_eq_true_eq] at hfound
    exact ⟨h, rfl, hfound⟩
  · next hnone =>
    rw [find?_allGenerators] at hnone
    have hmissed := Fin.eq_false_of_find?_eq_none hnone g
    simp [Generator.running, hrun, hset] at hmissed

/-- R67 step 2: without one, the search is for a FREE generator. -/
theorem State.obtainable_of_not_shareable {s : State} {c : Setting}
    (hnot : ∀ g : Fin 4, (s.generator g).wave.isSome → (s.generator g).setting ≠ some c) :
    s.obtainable c = Fin.find? fun g => !(s.generator g).running := by
  have hnone : (allGenerators.find? fun g => (s.generator g).running && decide ((s.generator g).setting = some c)) = none := by
    rw [find?_allGenerators, Fin.find?_eq_none_iff]
    intro g
    by_cases hrun : (s.generator g).wave.isSome <;> simp [Generator.running, hrun, hnot g]
  rw [State.obtainable, hnone, find?_allGenerators]

theorem State.generator_obtain_running {s : State} {g : Fin 4} (hrun : (s.generator g).wave.isSome) (c : Setting) (z : Fin 8) :
    (s.obtain g c z).generator g = (s.generator g).share z := by
  rw [State.obtain, State.generator_setGenerator_self, Generator.running, if_pos hrun]

theorem State.generator_obtain_free {s : State} {g : Fin 4} (hfree : (s.generator g).wave = none) (c : Setting) (z : Fin 8) :
    (s.obtain g c z).generator g = Generator.begin c z s.ticks := by
  rw [State.obtain, State.generator_setGenerator_self, if_neg (by simp [Generator.running, hfree])]

/-- Settles O39, step by step of R67. -/
theorem carrierObtained : Obligations.CarrierObtained := by
  refine fun c z s => ⟨fun g hrun hset => ?share, fun hnot => ⟨fun g hfree hlower => ?start, fun hall => ?none⟩, fun g h hne => ?frame⟩
  case share =>
    obtain ⟨h, hobtain, hruns, hsame⟩ := State.obtainable_of_shareable hrun hset
    exact ⟨h, hobtain, hruns, hsame, State.generator_obtain_running hruns c z⟩
  case start =>
    refine ⟨?_, State.generator_obtain_free hfree c z⟩
    rw [State.obtainable_of_not_shareable hnot, Fin.find?_eq_some_iff]
    exact ⟨by simp [Generator.running, hfree], fun f hf => by simp [Generator.running, hlower f hf]⟩
  case none =>
    rw [State.obtainable_of_not_shareable hnot, Fin.find?_eq_none_iff]
    exact fun g => by simp [Generator.running, hall g]
  case frame => exact State.generator_setGenerator_ne s _ hne

/-! ### Gate and outputs (R82, R83, R86) -/

theorem Zone.gateOpen_iff (zn : Zone) : zn.gateOpen = true ↔ PlaysMark zn := by
  have hphase (ph : Phase) : zn.phase = some ph ↔ ∃ a p, zn.active = some a ∧ a.play = some p ∧ p.phase = some ph := by
    simp [Zone.phase, Option.bind_eq_some_iff]
  simp only [Zone.gateOpen, Option.any_eq_true, decide_eq_true_eq, hphase]
  exact ⟨fun ⟨ph, ⟨a, p, ha, hp, hph⟩, hmark⟩ => ⟨a, p, ph, ha, hp, hph, hmark⟩,
    fun ⟨a, p, ph, ha, hp, hph, hmark⟩ => ⟨ph, ⟨a, p, ha, hp, hph⟩, hmark⟩⟩

/-- R2: carrier NONE is both widths 0. -/
theorem Template.carrier_eq_none_iff (t : Template) :
    t.carrier = none ↔ t.header.carrierHigh = 0 ∧ t.header.carrierLow = 0 := by
  simp [Template.carrier, carrierOf]

theorem State.baseband_iff (s : State) (z : Fin 8) : s.baseband z = true ↔ PlaysBaseband s z := by
  simp only [State.baseband, Option.any_eq_true, Option.isNone_iff_eq_none, Template.carrier_eq_none_iff]
  rfl

theorem State.loopback_iff (s : State) (z : Fin 8) :
    s.loopback z = true ↔ (s.zone z).emission ≠ none ∨ PlaysMark (s.zone z) ∧ PlaysBaseband s z := by
  rw [State.loopback, Bool.or_eq_true, Bool.and_eq_true, Option.isSome_iff_ne_none, Zone.gateOpen_iff, State.baseband_iff]

theorem State.zout_iff (s : State) (z : Fin 8) :
    s.zout z = true ↔ (∃ out, (s.zone z).emission = some out ∧ out.dark = false)
      ∨ PlaysMark (s.zone z) ∧ PlaysBaseband s z ∧ (s.zone z).config.dark = false := by
  simp only [State.zout, Bool.or_eq_true, Bool.and_eq_true, Option.any_eq_true, Bool.not_eq_true', Zone.gateOpen_iff,
    State.baseband_iff, and_assoc]

/-! ### The halves at a zone (R70, R84) -/

/-- R70: an output is free for the next high half once what it emits has run its width. -/
theorem Emission.any_runs_eq_false_iff (out : Option Emission) (now : Nat) :
    (out.any fun e => e.runs now) = false ↔ ∀ e ∈ out, e.stop ≤ now := by
  cases out <;> simp [Emission.runs]

/-- R70: an output keeps a high half until the half has run its width. -/
theorem Emission.filter_runs (out : Option Emission) (now : Nat) :
    (out.filter fun e => e.runs now) = if ∀ e ∈ out, e.stop ≤ now then none else out := by
  cases out with
  | none => simp
  | some e =>
    by_cases hover : e.stop ≤ now
    · simp [Emission.runs, hover]
    · simp [Emission.runs, hover, Nat.lt_of_not_le hover]

/-- R84: a high half that begins is emitted whole where the gate is open, unless an earlier one still completes (R70). -/
theorem Zone.highBegins_eq (g : Fin 4) (now stop : Nat) (zn : Zone) : zn.highBegins g now stop = { zn with
    emission := if zn.binding = some g ∧ zn.gateOpen = true ∧ (∀ e ∈ zn.emission, e.stop ≤ now) then
      some ⟨now, stop, zn.config.dark⟩ else zn.emission } := by
  by_cases hopen : zn.binding = some g ∧ zn.gateOpen = true
  · obtain ⟨hbound, hgate⟩ := hopen
    by_cases hover : ∀ e ∈ zn.emission, e.stop ≤ now
    · rw [if_pos ⟨hbound, hgate, hover⟩]
      simp [Zone.highBegins, Zone.emit, hbound, hgate, (Emission.any_runs_eq_false_iff ..).mpr hover]
    · rw [if_neg fun ⟨_, _, h⟩ => hover h]
      rw [← Emission.any_runs_eq_false_iff, Bool.not_eq_false] at hover
      simp [Zone.highBegins, Zone.emit, hbound, hgate, hover]
  · rw [if_neg fun ⟨hbound, hgate, _⟩ => hopen ⟨hbound, hgate⟩, Zone.highBegins, if_neg (by simpa using hopen)]

/-- R70, R84: a high half that ends leaves the outputs that have run their width inactive. -/
theorem Zone.highEnds_eq (g : Fin 4) (now : Nat) (zn : Zone) : zn.highEnds g now = { zn with
    emission := if zn.binding = some g ∧ (∀ e ∈ zn.emission, e.stop ≤ now) then none else zn.emission } := by
  by_cases hbound : zn.binding = some g
  · rw [Zone.highEnds, if_pos hbound, Emission.filter_runs]
    simp only [hbound, true_and]
  · rw [Zone.highEnds, if_neg hbound, if_neg fun ⟨h, _⟩ => hbound h]

/-! ### The halves of a generator (R66) -/

section
variable {s : State} {g : Fin 4} {w : Wave}

theorem highHalfStart_low {c : Setting} (hw : (s.generator g).wave = some w) (hc : (s.generator g).setting = some c)
    (hlow : w.high = false) : highHalfStart g s = (s.advance w.stop).startHigh g c := by
  simp [highHalfStart, hw, hc, hlow]

theorem highHalfStart_high (hw : (s.generator g).wave = some w) (hhigh : w.high = true) : highHalfStart g s = s := by
  rw [highHalfStart, hw]
  cases (s.generator g).setting <;> simp [hhigh]

theorem highHalfStart_free (hfree : (s.generator g).wave = none) : highHalfStart g s = s := by
  simp [highHalfStart, hfree]

theorem highHalfEnd_high {c : Setting} (hw : (s.generator g).wave = some w) (hc : (s.generator g).setting = some c)
    (hhigh : w.high = true) : highHalfEnd (.generator g) s = (s.advance w.stop).startLow g c := by
  simp [highHalfEnd, hw, hc, hhigh]

theorem highHalfEnd_low (hw : (s.generator g).wave = some w) (hlow : w.high = false) : highHalfEnd (.generator g) s = s := by
  rw [highHalfEnd, hw]
  cases (s.generator g).setting <;> simp [hlow]

theorem highHalfEnd_free (hfree : (s.generator g).wave = none) : highHalfEnd (.generator g) s = s := by
  simp [highHalfEnd, hfree]

end

theorem exec_highHalfStart (g : Fin 4) (s : State) : exec (.highHalfStart g) s = .next (highHalfStart g s) := rfl

theorem exec_highHalfEnd (owner : HalfOwner) (s : State) :
    exec (.highHalfEnd owner) s = .next (highHalfEnd owner s) := rfl

theorem State.zone_startHigh (s : State) (g : Fin 4) (c : Setting) (z : Fin 8) :
    (s.startHigh g c).zone z = (s.zone z).highBegins g s.ticks (s.ticks + c.high) := by
  simp [State.startHigh, State.zone]

theorem State.zone_startLow (s : State) (g : Fin 4) (c : Setting) (z : Fin 8) :
    (s.startLow g c).zone z = (s.zone z).highEnds g s.ticks := by
  simp [State.startLow, State.zone]

/-- Settles O40: the levels of the outputs, then the halves of a RUNNING and of a FREE generator, and of a driver. -/
theorem carrierHalvesAlternate : Obligations.CarrierHalvesAlternate := by
  refine ⟨fun z s => ⟨Zone.gateOpen_iff _, State.loopback_iff s z, State.zout_iff s z⟩, fun s =>
    ⟨fun g w c hw hc => ⟨_, rfl, fun hlow => ?begins, fun hhigh => ?ends, fun hhigh => ?starts_high, fun hlow => ?ends_low⟩,
      fun g hfree => ⟨?starts_free, ?ends_free⟩, fun z e he => ?driver, fun z he => ?driver_none⟩⟩
  case begins =>
    rw [exec_highHalfStart, highHalfStart_low hw hc hlow]
    exact ⟨_, rfl, rfl, rfl, fun z => ⟨_, (State.zone_startHigh ..).trans (Zone.highBegins_eq ..), rfl⟩⟩
  case ends =>
    rw [exec_highHalfEnd, highHalfEnd_high hw hc hhigh]
    exact ⟨_, rfl, rfl, rfl, fun z => ⟨_, (State.zone_startLow ..).trans (Zone.highEnds_eq ..), rfl⟩⟩
  case starts_high => rw [exec_highHalfStart, highHalfStart_high hw hhigh]
  case ends_low => rw [exec_highHalfEnd, highHalfEnd_low hw hlow]
  case starts_free => rw [exec_highHalfStart, highHalfStart_free hfree]
  case ends_free => rw [exec_highHalfEnd, highHalfEnd_free hfree]
  case driver => simp only [exec_highHalfEnd, highHalfEnd, he]; rfl
  case driver_none => simp only [exec_highHalfEnd, highHalfEnd, he]

end Sys2Proof.Machine
end

section
/-!
Frame playback (chapter 5), the sequencer: the cursor's walk against the expansion of a list, element by element, and the
frame end decision, test by test.
-/
namespace Sys2Proof.Machine

/-! ### The phases of one element (R77 to R80) -/

/-- The phases that an element plays: one, or the two halves of each of its symbols. -/
def Element.phaseCount (e : Element) : Nat := if e.symbols = 0 then 1 else 2 * e.symbols

theorem Element.phaseCount_pos (e : Element) : 0 < e.phaseCount := by
  unfold Element.phaseCount; split <;> omega

/-- R78: a list of symbols has the mark of each symbol at the even places and its space after it. -/
theorem getElem?_symbols {α : Type} (mark space : Nat → α) (count i : Nat) (h : i < 2 * count) :
    ((List.range count).flatMap fun b => [mark b, space b])[i]? = some (if i % 2 = 0 then mark (i / 2) else space (i / 2)) := by
  induction count with
  | zero => omega
  | succ n ih =>
    have hlength : ((List.range n).flatMap fun b => [mark b, space b]).length = 2 * n := by simp; omega
    rw [List.range_succ, List.flatMap_append, List.getElem?_append, hlength]
    split
    · next hi => exact ih hi
    · next hi =>
      obtain rfl | rfl : i = 2 * n ∨ i = 2 * n + 1 := by omega
      · simp
      · simp [Nat.mul_add_div]

/-- The cursor on the `i`th phase of the element at a position. -/
def Cursor.standing (position taken i : Nat) : Cursor :=
  { position := position, bit := i / 2, half := if i % 2 = 0 then .mark else .space, taken := taken }

section
variable (h : TemplateHeader) (payload : List Bool) (toggleBit : Bool)

/-- An element that R4 allows gives as many phases as the cursor plays of it. -/
theorem Element.length_phases {e : Element} (he : e ≠ .dataNext 0 ∧ e ≠ .dataEcho 0) (taken : Nat) :
    (e.phases h payload toggleBit taken).length = e.phaseCount := by
  cases e with
  | mark d | space d | toggle => rfl
  | dataNext c | dataEcho c =>
    have hc : c ≠ 0 := by rintro rfl; simp at he
    simp [Element.phases, Element.phaseCount, Element.symbols, hc, Nat.mul_comm]

/-- The cursor within an element stands on the phases that the element's expansion lists. -/
theorem Cursor.phase_standing {elements : List Element} {position i : Nat} {e : Element}
    (hat : elements[position]? = some e) (he : e ≠ .dataNext 0 ∧ e ≠ .dataEcho 0) (taken : Nat) (hi : i < e.phaseCount) :
    (Cursor.standing position taken i).phase h payload toggleBit elements = (e.phases h payload toggleBit taken)[i]? := by
  cases e with
  | mark d | space d =>
    obtain rfl : i = 0 := Nat.lt_one_iff.mp hi
    simp [Cursor.phase, Cursor.standing, hat, Element.phases]
  | dataNext c | dataEcho c =>
    have hc : c ≠ 0 := by rintro rfl; simp at he
    have hlt : i < 2 * c := by simpa [Element.phaseCount, Element.symbols, hc] using hi
    rw [Element.phases, getElem?_symbols _ _ _ _ hlt]
    by_cases heven : i % 2 = 0 <;> simp [Cursor.phase, Cursor.standing, hat, heven]
  | toggle =>
    have hlt : i < 2 * 1 := hi
    obtain rfl | rfl : i = 0 ∨ i = 1 := by omega
    · simp [Cursor.phase, Cursor.standing, hat, Element.phases]
    · simp [Cursor.phase, Cursor.standing, hat, Element.phases]

/-- R81: within an element the cursor moves to its next phase. -/
theorem Cursor.next_standing_within {elements : List Element} {position i : Nat} {e : Element}
    (hat : elements[position]? = some e) (taken : Nat) (hi : i + 1 < e.phaseCount) :
    (Cursor.standing position taken i).next elements = Cursor.standing position taken (i + 1) := by
  unfold Element.phaseCount at hi
  split at hi
  · omega
  next hsymbols =>
  by_cases heven : i % 2 = 0
  · have hodd : (i + 1) % 2 = 1 := by omega
    have hbit : (i + 1) / 2 = i / 2 := by omega
    simp [Cursor.next, Cursor.standing, hat, hsymbols, heven, hodd, hbit]
  · have hodd : (i + 1) % 2 = 0 := by omega
    have hbit : (i + 1) / 2 = i / 2 + 1 := by omega
    have hmore : ¬ e.symbols ≤ i / 2 + 1 := by omega
    simp [Cursor.next, Cursor.standing, hat, hsymbols, heven, hodd, hbit, hmore]

/-- R81: after its last phase the cursor leaves an element for the next. -/
theorem Cursor.next_standing_last {elements : List Element} {position i : Nat} {e : Element}
    (hat : elements[position]? = some e) (taken : Nat) (hi : i + 1 = e.phaseCount) :
    (Cursor.standing position taken i).next elements = Cursor.standing (position + 1) (taken + e.takes) 0 := by
  unfold Element.phaseCount at hi
  split at hi
  · next hsymbols => simp [Cursor.next, Cursor.standing, hat, hsymbols]
  · have hodd : i % 2 = 1 := by omega
    have hlast : e.symbols ≤ i / 2 + 1 := by omega
    simp [Cursor.next, Cursor.standing, hat, hodd, hlast]

/-- The walk over an element stands on its `i`th phase after `i` moves. -/
theorem Cursor.iterate_next_within {elements : List Element} {position : Nat} {e : Element}
    (hat : elements[position]? = some e) (taken : Nat) {i : Nat} (hi : i < e.phaseCount) :
    (fun c : Cursor => c.next elements)^[i] (Cursor.standing position taken 0) = Cursor.standing position taken i := by
  induction i with
  | zero => rfl
  | succ n ih =>
    rw [Function.iterate_succ_apply', ih (by omega)]
    exact Cursor.next_standing_within hat taken hi

/-- The walk over an element takes the cursor to the start of the next. -/
theorem Cursor.iterate_next_element {elements : List Element} {position : Nat} {e : Element}
    (hat : elements[position]? = some e) (taken : Nat) :
    (fun c : Cursor => c.next elements)^[e.phaseCount] (Cursor.standing position taken 0)
      = Cursor.standing (position + 1) (taken + e.takes) 0 := by
  obtain ⟨last, hlast⟩ := Nat.exists_eq_add_one.mpr e.phaseCount_pos
  rw [hlast, Function.iterate_succ_apply', Cursor.iterate_next_within hat taken (by omega)]
  exact Cursor.next_standing_last hat taken hlast.symm

/-- R81: past the last element the cursor stays, and there is no phase. -/
theorem Cursor.iterate_next_past (elements : List Element) (taken n : Nat) :
    (fun c : Cursor => c.next elements)^[n] (Cursor.standing elements.length taken 0)
      = Cursor.standing elements.length taken 0 :=
  Function.iterate_fixed (by simp [Cursor.next, Cursor.standing]) n

/-! ### The walk over a list (R77 to R81) -/

/-- From the start of any element on, the walk plays the expansion of the elements that are left. -/
theorem Cursor.phase_iterate_next (before rest : List Element) (taken n : Nat)
    (hrest : ∀ e ∈ rest, e ≠ .dataNext 0 ∧ e ≠ .dataEcho 0) :
    ((fun c : Cursor => c.next (before ++ rest))^[n] (Cursor.standing before.length taken 0)).phase h payload toggleBit
        (before ++ rest)
      = (framePhases h payload toggleBit taken rest)[n]? := by
  induction rest generalizing before taken n with
  | nil =>
    rw [List.append_nil, Cursor.iterate_next_past]
    simp [Cursor.phase, Cursor.standing, framePhases]
  | cons e rest ih =>
    have hat : (before ++ e :: rest)[before.length]? = some e := by simp
    have he := hrest e List.mem_cons_self
    have hlength := e.length_phases h payload toggleBit he taken
    rw [framePhases]
    by_cases hn : n < e.phaseCount
    · rw [List.getElem?_append_left (by rwa [hlength]), Cursor.iterate_next_within hat taken hn]
      exact Cursor.phase_standing h payload toggleBit hat he taken hn
    · obtain ⟨m, rfl⟩ := Nat.exists_eq_add_of_le' (Nat.le_of_not_lt hn)
      have hrestFrom := ih (before ++ [e]) (taken + e.takes) m fun e' he' => hrest e' (List.mem_cons_of_mem e he')
      rw [List.append_assoc, List.singleton_append, List.length_append, List.length_singleton] at hrestFrom
      rw [List.getElem?_append_right (by omega), hlength, Nat.add_sub_cancel, Function.iterate_add_apply,
        Cursor.iterate_next_element hat]
      exact hrestFrom

end

/-- Settles O41: the walk from the first element on. -/
theorem cursorPlaysFramePhases : Obligations.CursorPlaysFramePhases := by
  intro h payload toggleBit elements hcounts n
  exact Cursor.phase_iterate_next h payload toggleBit [] elements 0 n hcounts

/-! ### The frame end decision (R90) -/

section
variable {a : ActiveJob}

theorem tapDone_iff {r : Nat} (hmode : a.job.mode = .tap r) :
    tapDone a = true ↔ a.framesTarget ≤ a.framesStarted ∨ a.framesStarted = 4096 := by
  simp [tapDone, hmode, JobMode.isHold, Config.maxFrames]

theorem holdReleased_iff {o : Option Nat} (hmode : a.job.mode = .hold o) (t : Template) :
    holdReleased a t = true ↔ a.job.released = true ∧ 1 + t.header.minRepeats.toNat ≤ a.framesStarted := by
  rw [holdReleased, hmode, Bool.and_eq_true, Bool.and_eq_true, decide_eq_true_iff]
  exact and_congr_left fun _ => and_iff_right rfl

theorem holdLimited_iff {o : Option Nat} (hmode : a.job.mode = .hold o) :
    holdLimited a = true ↔ a.framesStarted = a.framesTarget := by
  simp [holdLimited, hmode, JobMode.isHold]

/-- R90: of the four tests a TAP job meets the first two alone. -/
theorem frameEndDecision_tap {r : Nat} (hmode : a.job.mode = .tap r) (hkeep : a.cancelAfterFrame = false) (t : Template) :
    frameEndDecision a t = if tapDone a then some .done else none := by
  simp [frameEndDecision, hkeep, holdReleased, holdLimited, hmode, JobMode.isHold]

/-- R90: a HOLD job meets every test but the second. -/
theorem frameEndDecision_hold {o : Option Nat} (hmode : a.job.mode = .hold o) (hkeep : a.cancelAfterFrame = false)
    (t : Template) : frameEndDecision a t =
      if holdReleased a t then some .released else if holdLimited a then some .limit else none := by
  simp [frameEndDecision, hkeep, tapDone, hmode, JobMode.isHold]

end

/-- Settles O42: the cancel flag, then the tests of the job's mode. -/
theorem frameEndDecisionInOrder : Obligations.FrameEndDecisionInOrder := by
  intro a t
  refine ⟨fun hcancel => by rw [frameEndDecision, if_pos hcancel], fun hkeep => ⟨fun r hmode => ?tap, fun o hmode => ?hold⟩⟩
  case tap =>
    rw [frameEndDecision_tap hmode hkeep]
    refine ⟨fun hdone => if_pos ((tapDone_iff hmode).mpr hdone), fun hbelow hmax => if_neg fun hdone => ?_⟩
    rcases (tapDone_iff hmode).mp hdone with htarget | hlast
    · exact Nat.not_le_of_lt hbelow htarget
    · exact hmax hlast
  case hold =>
    rw [frameEndDecision_hold hmode hkeep]
    refine ⟨fun hreleased hmin => if_pos ((holdReleased_iff hmode t).mpr ⟨hreleased, hmin⟩), fun hplaying => ?_⟩
    have hnot : ¬ holdReleased a t = true := by
      rw [holdReleased_iff hmode]
      rintro ⟨hreleased, hmin⟩
      rcases hplaying with hheld | hfew
      · rw [hheld] at hreleased; cases hreleased
      · omega
    rw [if_neg hnot]
    exact ⟨fun hlimit => if_pos ((holdLimited_iff hmode).mpr hlimit),
      fun hbelow => if_neg fun hlimit => hbelow ((holdLimited_iff hmode).mp hlimit)⟩

end Sys2Proof.Machine
end

section
/-!
Frame playback (chapter 5), the events: what the end of a phase and the frame timer make of the zone, and the condition that
is sensed at the gate after them.
-/
namespace Sys2Proof.Machine

/-! ### The configuration of a zone under playback (R30) -/

theorem Zone.config_flip (zn : Zone) (i : Fin 64) (toggled : Bool) : (zn.flip i toggled).config = zn.config := by
  unfold Zone.flip; split <;> rfl

theorem State.config_activateHead (s : State) (z : Fin 8) : ((s.activateHead z).zone z).config = (s.zone z).config := by
  unfold State.activateHead
  split
  · rfl
  split
  · rw [State.zone_beginWaiting_self]; exact Zone.config_flip ..
  · simp [State.endIncompatible]

theorem State.config_considerActivation (s : State) (z : Fin 8) :
    ((s.considerActivation z).zone z).config = (s.zone z).config := by
  unfold State.considerActivation
  induction (s.zone z).queue.length generalizing s with
  | zero => rfl
  | succ n ih =>
    unfold State.activations
    split
    · exact (ih _).trans (s.config_activateHead z)
    · rfl

theorem State.config_endJob (s : State) (z : Fin 8) (o : JobOutcome) (time : Word) :
    ((s.endJob z o time).zone z).config = (s.zone z).config := by
  cases ha : (s.zone z).active with
  | none => rw [State.endJob, ha]
  | some a => rw [State.endJob_zone_self s z a ha]

theorem State.config_setPlay (s : State) (z : Fin 8) (p : PlayState) :
    ((s.setPlay z p).zone z).config = (s.zone z).config := by
  simp [State.setPlay, State.updActive]

theorem State.config_startFrame (s : State) (z : Fin 8) : ((s.startFrame z).zone z).config = (s.zone z).config := by
  unfold State.startFrame
  split
  · rfl
  · rw [State.zone_updZone_self]

theorem State.config_frameEnd (s : State) (z : Fin 8) (a : ActiveJob) (p : PlayState) :
    ((s.frameEnd z a p).zone z).config = (s.zone z).config := by
  unfold State.frameEnd
  split
  · rw [State.config_considerActivation, State.config_endJob]
  · dsimp only
    split
    · rw [State.config_startFrame, State.config_setPlay]
    split
    · rw [State.config_startFrame, State.config_setPlay]
    · rw [State.config_setPlay]

theorem State.config_phaseOver (s : State) (z : Fin 8) (a : ActiveJob) (p : PlayState) :
    ((s.phaseOver z a p).zone z).config = (s.zone z).config := by
  unfold State.phaseOver
  split
  · exact State.config_setPlay ..
  · exact State.config_frameEnd ..

theorem State.config_regated (s : State) (z : Fin 8) (wasOpen : Bool) :
    ((s.regated z wasOpen).zone z).config = (s.zone z).config := by
  simp [State.regated, State.zone]

/-! ### A condition that stands at the gate after an event (R117) -/

/-- The zone is sensed after an event that leaves the pins, the reset and the zone's configuration as they were. -/
theorem State.sense_after {s u : State} {z : Fin 8} (hpins : u.pins = s.pins) (hreset : u.assertedReset = s.assertedReset)
    (hconfig : (u.zone z).config = (s.zone z).config) :
    (s.pins.zsense[z] = .normal ∨ (s.zone z).config.dark = true →
        (.next (u.sense z) : Host.Outcome State Fault Refusal) = .next u)
      ∧ (s.assertedReset = none → .next (u.sense z) = exec (.driverFault z s.pins.zsense[z]) u) := by
  rw [← hpins, ← hreset, ← hconfig]
  exact ⟨fun h => congrArg _ (u.sense_normal z h), u.sense_eq_report z⟩

/-! ### The end of a phase (R75, R81, R88, R90, R92) -/

/-- The phase that the cursor stands on once it has moved on, as kind and duration (R75, R81). -/
def State.upcoming (s : State) (z : Fin 8) (a : ActiveJob) (p : PlayState) : Option (PhaseKind × Nat) :=
  (p.cursor.next ((s.template a.job.template).elements p.list)).phase (s.template a.job.template).header a.job.payload
    (s.zone z).toggles[a.job.template] ((s.template a.job.template).elements p.list)

theorem State.nextPhase_eq (s : State) (z : Fin 8) (a : ActiveJob) (p : PlayState) :
    s.nextPhase z a p = (s.upcoming z a p).map fun x => ⟨x.1, x.2, s.ticks⟩ := rfl

section
variable {s : State} {z : Fin 8} {a : ActiveJob} {p : PlayState}

theorem State.setPlay_eq (ha : (s.zone z).active = some a) (q : PlayState) :
    s.setPlay z q = { s with zones := s.zones.set z { s.zone z with active := some { a with play := some q } } } :=
  State.updActive_eq ha _

/-- R81: the next phase begins at the instant this one ends. -/
theorem State.phaseOver_upcoming (ha : (s.zone z).active = some a) {k : PhaseKind} {d : Nat}
    (hnext : s.upcoming z a p = some (k, d)) :
    s.phaseOver z a p = { s with zones := s.zones.set z { s.zone z with
      active := some { a with play := some { p with
        cursor := p.cursor.next ((s.template a.job.template).elements p.list), phase := some ⟨k, d, s.ticks⟩ } } } } := by
  rw [State.phaseOver, State.nextPhase_eq, hnext]
  exact State.setPlay_eq ha _

/-- R81, R88: after the last phase the frame has ended. -/
theorem State.phaseOver_last (hnext : s.upcoming z a p = none) : s.phaseOver z a p = s.frameEnd z a p := by
  rw [State.phaseOver, State.nextPhase_eq, hnext]; rfl

/-- R90, R92: the decision ends the job. -/
theorem State.frameEnd_decided {o : JobOutcome} (hend : frameEndDecision a (s.template a.job.template) = some o) :
    s.frameEnd z a p = (s.endJob z o s.timeBase).considerActivation z := by
  rw [State.frameEnd, hend]

/-- R88: the zone waits in INTERVAL for a deadline that is to come. -/
theorem State.frameEnd_interval (ha : (s.zone z).active = some a)
    (hplay : frameEndDecision a (s.template a.job.template) = none) {d : Nat} (hd : p.deadline = some d) (hlater : s.ticks < d) :
    s.frameEnd z a p = { s with zones := s.zones.set z { s.zone z with
      active := some { a with play := some { p with phase := none, lastPhaseEnd := some s.ticks } } } } := by
  rw [State.frameEnd, hplay]
  simp only [hd, if_neg (Nat.not_le_of_lt hlater)]
  exact State.setPlay_eq ha _

/-- R87: the next frame of a job whose play state has been written. -/
theorem State.startFrame_setPlay (ha : (s.zone z).active = some a) (q : PlayState) :
    ∃ p', FrameBegun s z a s.ticks q.lastPhaseEnd p' ∧ (s.setPlay z q).startFrame z =
      { s with zones := s.zones.set z { s.zone z with active := some (a.begun s.timeBase p') } } := by
  have hzone : (s.setPlay z q).zone z = { s.zone z with active := some { a with play := some q } } := by
    simp [State.setPlay, State.updActive, ha]
  have htoggles : ((s.setPlay z q).zone z).toggles = (s.zone z).toggles := by rw [hzone]
  obtain ⟨p', hbegun, hstart⟩ := (s.setPlay z q).startFrame_eq z _ (congrArg Zone.active hzone)
  refine ⟨p', hbegun.congr (fun _ => rfl) htoggles rfl rfl, ?_⟩
  rw [hstart, hzone, State.setPlay_eq ha]
  simp only [vector_set_set]
  rfl

/-- R88: without a deadline to come the next frame starts at once. -/
theorem State.frameEnd_at_once (ha : (s.zone z).active = some a)
    (hplay : frameEndDecision a (s.template a.job.template) = none) (hdue : ∀ d, p.deadline = some d → d ≤ s.ticks) :
    ∃ p', FrameBegun s z a s.ticks (some s.ticks) p' ∧ s.frameEnd z a p =
      { s with zones := s.zones.set z { s.zone z with active := some (a.begun s.timeBase p') } } := by
  have hnow : s.frameEnd z a p = (s.setPlay z { p with phase := none, lastPhaseEnd := some s.ticks }).startFrame z := by
    rw [State.frameEnd, hplay]
    cases hd : p.deadline with
    | none => rfl
    | some d => exact if_pos (hdue d hd)
  rw [hnow]
  exact State.startFrame_setPlay ha { p with phase := none, lastPhaseEnd := some s.ticks }

/-! ### The two events (R81, R89) -/

theorem exec_phaseEnd (z : Fin 8) (s : State) : exec (.phaseEnd z) s = .next (phaseEnd z s) := rfl

theorem exec_frameTimerExpiry (z : Fin 8) (s : State) :
    exec (.frameTimerExpiry z) s = .next (frameTimerExpiry z s) := rfl

theorem Zone.phase_eq {zn : Zone} (ha : zn.active = some a) (hp : a.play = some p) : zn.phase = p.phase := by
  rw [Zone.phase, ha, Option.bind_some, hp, Option.bind_some]

/-- Log 3: a zone that plays no phase has none to end. -/
theorem phaseEnd_no_phase (hnone : (s.zone z).phase = none) : phaseEnd z s = s := by
  unfold phaseEnd
  split
  · rfl
  next a ha =>
  split
  · rfl
  next p hp =>
  rw [← Zone.phase_eq ha hp, hnone]

theorem phaseEnd_playing {ph : Phase} (ha : (s.zone z).active = some a) (hp : a.play = some p) (hph : p.phase = some ph) :
    phaseEnd z s =
      (((s.advance ph.stop).phaseOver z a p).regated z (decide (ph.kind = .mark))).sense z := by
  have hgate : (s.zone z).gateOpen = decide (ph.kind = .mark) := by
    rw [Zone.gateOpen, Zone.phase_eq ha hp, hph, Option.any_some]
  simp only [phaseEnd, ha, hp, hph, State.gateMoved_eq, hgate]

/-- Log 3: a zone that is not in INTERVAL with a deadline has no frame timer running. -/
theorem frameTimerExpiry_stopped
    (hstopped : ∀ a p, (s.zone z).active = some a → a.play = some p → p.phase ≠ none ∨ p.deadline = none) :
    frameTimerExpiry z s = s := by
  unfold frameTimerExpiry
  split
  · rfl
  next a ha =>
  split
  · rfl
  next p hp =>
  split
  · next d hphase hd =>
    rcases hstopped a p ha hp with h | h
    · exact absurd hphase h
    · exact nomatch hd.symm.trans h
  · rfl

theorem frameTimerExpiry_interval {d : Nat} (ha : (s.zone z).active = some a) (hp : a.play = some p)
    (hphase : p.phase = none) (hd : p.deadline = some d) :
    frameTimerExpiry z s = (((s.advance d).startFrame z).regated z false).sense z := by
  simp only [frameTimerExpiry, ha, hp, hphase, hd, State.gateMoved_eq]

end

/-- Settles O43: what follows the phase, by the phase that is next and by the frame end decision. -/
theorem phaseEndPlaysOn : Obligations.PhaseEndPlaysOn := by
  refine ⟨fun z s hnone => ?idle, fun z a p ph s ha hp hph => ?playing⟩
  case idle => rw [exec_phaseEnd, phaseEnd_no_phase hnone]
  case playing =>
    have hactive : ((s.advance ph.stop).zone z).active = some a := ha
    refine ⟨_, _, _, _, s.advance ph.stop, (s.advance ph.stop).phaseOver z a p, _, rfl, rfl, rfl, rfl, rfl,
      fun k d hnext => ?next, fun hnext => ?last, rfl, ?sensed⟩
    case next => exact State.phaseOver_upcoming hactive hnext
    case last =>
      have hover : (s.advance ph.stop).phaseOver z a p = (s.advance ph.stop).frameEnd z a p := State.phaseOver_last hnext
      rw [hover]
      refine ⟨fun o hend => State.frameEnd_decided hend, fun hplay => ⟨fun d hd hlater => ?interval, fun hdue => ?again⟩⟩
      case interval => exact State.frameEnd_interval hactive hplay hd hlater
      case again =>
        obtain ⟨p', hbegun, hstart⟩ := State.frameEnd_at_once (p := p) hactive hplay hdue
        exact ⟨p', hbegun.congr (fun _ => rfl) rfl rfl rfl, hstart⟩
    case sensed =>
      rw [exec_phaseEnd, phaseEnd_playing ha hp hph]
      refine State.sense_after ?pins ?reset ?config
      case pins => exact State.phaseOver_pins ..
      case reset => exact State.phaseOver_assertedReset ..
      case config => rw [State.config_regated, State.config_phaseOver, State.zone_advance]

/-- Settles O44: the frame that starts, then the gate. -/
theorem frameTimerStartsFrame : Obligations.FrameTimerStartsFrame := by
  refine fun z s => ⟨fun hstopped => ?stopped, fun a p d ha hp hphase hd => ?interval⟩
  case stopped => rw [exec_frameTimerExpiry, frameTimerExpiry_stopped hstopped]
  case interval =>
    obtain ⟨p', hbegun, hstart⟩ := (s.advance d).startFrame_eq z a ha
    rw [hp, Option.bind_some] at hbegun
    rw [exec_frameTimerExpiry, frameTimerExpiry_interval ha hp hphase hd]
    refine ⟨s.advance d, p', _, rfl, hbegun.congr (fun _ => rfl) rfl rfl rfl, rfl, ?sensed⟩
    rw [hstart]
    refine State.sense_after rfl rfl ?config
    rw [State.config_regated]
    simp [State.zone]

end Sys2Proof.Machine
end

section
/-!
Hold and release (R97 to R101): the jobs and records that a tag finds in a zone, the decision taken again in INTERVAL (R91),
then what a release makes of each.
-/
namespace Sys2Proof.Machine

/-! ### What a tag finds in a zone -/

section
variable {zn : Zone} {tag : Half}

theorem Zone.activeWith_eq_some_iff {a : ActiveJob} : zn.activeWith tag = some a ↔ zn.active = some a ∧ a.job.tag = tag := by
  rw [Zone.activeWith, Option.filter_eq_some_iff, decide_eq_true_iff]

theorem Zone.activeWith_eq_none_iff : zn.activeWith tag = none ↔ ∀ a, zn.active = some a → a.job.tag ≠ tag := by
  rw [Option.eq_none_iff_forall_ne_some]
  exact forall_congr' fun a => by rw [Ne, Zone.activeWith_eq_some_iff, not_and]

theorem Zone.queuedWith_eq_none_iff : zn.queuedWith tag = none ↔ ∀ j ∈ zn.queue, j.tag ≠ tag := by
  simp [Zone.queuedWith]

/-- No live job carries the tag: neither search finds one. -/
theorem Zone.forall_jobs_tag_ne_iff :
    (∀ j ∈ zn.jobs, j.tag ≠ tag) ↔ zn.activeWith tag = none ∧ zn.queuedWith tag = none := by
  rw [Zone.activeWith_eq_none_iff, Zone.queuedWith_eq_none_iff]
  cases ha : zn.active <;> simp [Zone.jobs, ha]

variable {j : Job} {before behind : List Job}

theorem Zone.queuedWith_split (hq : zn.queue = before ++ j :: behind) (hj : j.tag = tag)
    (hbefore : ∀ k ∈ before, k.tag ≠ tag) : zn.queuedWith tag = some j := by
  rw [Zone.queuedWith, hq]
  exact find?_split _ before j behind (fun k hk => decide_eq_false (hbefore k hk)) (decide_eq_true hj)

/-- R99: the place counts from 1 at the head. -/
theorem Zone.placeOf_split (hq : zn.queue = before ++ j :: behind) (hj : j.tag = tag)
    (hbefore : ∀ k ∈ before, k.tag ≠ tag) : zn.placeOf tag = before.length + 1 := by
  rw [Zone.placeOf, hq, List.findIdx_append, if_neg (by simpa using hbefore), List.findIdx_cons, decide_eq_true hj]
  simp

/-- R101: the newest record stands nearest the end of the list. -/
theorem Zone.newestRecord_split {older newer : List Completion} {c : Completion}
    (hrecords : zn.completions = older ++ c :: newer) (hc : c.tag = tag) (hnewer : ∀ d ∈ newer, d.tag ≠ tag) :
    zn.newestRecord tag = some c := by
  have hreverse : zn.completions.reverse = newer.reverse ++ c :: older.reverse := by simp [hrecords]
  rw [Zone.newestRecord, hreverse]
  exact find?_split _ _ c _ (fun d hd => decide_eq_false (hnewer d (List.mem_reverse.mp hd))) (decide_eq_true hc)

theorem Zone.newestRecord_eq_none (h : ∀ d ∈ zn.completions, d.tag ≠ tag) : zn.newestRecord tag = none := by
  simpa [Zone.newestRecord] using h

end

/-- R31: of its jobs the state of a zone sees the state of the active one, and whether one waits. -/
theorem Zone.state_congr {new old : Zone} (hconfig : new.config = old.config) (hquiet : new.quietEnd = old.quietEnd)
    (hcondition : new.condition = old.condition) (hactive : new.active.map ActiveJob.state = old.active.map ActiveJob.state)
    (hqueue : new.queue.isEmpty = old.queue.isEmpty) : new.state = old.state := by
  unfold Zone.state
  rw [hconfig, hquiet, hcondition, hqueue]
  cases hn : new.active <;> cases ho : old.active <;> simp_all

/-! ### The decision taken again in INTERVAL (R91) -/

theorem JobMode.isHold_iff (m : JobMode) : m.isHold = true ↔ ∃ o, m = .hold o := by
  cases m <;> simp [JobMode.isHold]

/-- R91: of the two tests a HOLD job meets the second alone. -/
theorem intervalDecision_hold {a : ActiveJob} (hhold : a.job.mode.isHold = true) (t : Template) :
    intervalDecision a t = if holdReleased a t then some .released else none := by
  simp [intervalDecision, tapDone, hhold]

theorem ActiveJob.state_eq_interval_iff (a : ActiveJob) : a.state = .interval ↔ ∃ p, a.play = some p ∧ p.phase = none := by
  cases hp : a.play with
  | none => simp [ActiveJob.state, hp]
  | some p => cases hphase : p.phase <;> simp [ActiveJob.state, hp, hphase]

section
variable {s : State} {z : Fin 8} {a : ActiveJob}

/-- R91: outside INTERVAL, and where no test is met, the job plays on. -/
theorem State.decideAgain_stays (ha : (s.zone z).active = some a)
    (hstays : a.state ≠ .interval ∨ intervalDecision a (s.template a.job.template) = none) : s.decideAgain z = s := by
  unfold State.decideAgain
  rw [ha]
  dsimp only
  split
  · rfl
  next p hp =>
  split
  · rfl
  next hphase =>
  have hinterval : a.state = .interval := a.state_eq_interval_iff.mpr ⟨p, hp, by simpa using hphase⟩
  rw [hstays.resolve_left (not_not.mpr hinterval)]

/-- R91: the job ends with the last phase end as its end time. -/
theorem State.decideAgain_ends {p : PlayState} {e : Nat} {o : JobOutcome} (ha : (s.zone z).active = some a)
    (hp : a.play = some p) (hphase : p.phase = none) (hlast : p.lastPhaseEnd = some e)
    (hend : intervalDecision a (s.template a.job.template) = some o) :
    s.decideAgain z = (s.endJob z o (reading e)).considerActivation z := by
  simp [State.decideAgain, ha, hp, hphase, hlast, hend]

end

theorem State.completions_activateHead_le (s : State) (z : Fin 8) :
    (s.zone z).completions.length ≤ ((s.activateHead z).zone z).completions.length := by
  unfold State.activateHead
  split
  · exact Nat.le_refl _
  split
  · rw [State.zone_beginWaiting_self, Zone.flip_completions]
  · simp [State.endIncompatible]

/-- R36: activations add records and take none away. -/
theorem State.completions_considerActivation_le (s : State) (z : Fin 8) :
    (s.zone z).completions.length ≤ ((s.considerActivation z).zone z).completions.length := by
  unfold State.considerActivation
  induction (s.zone z).queue.length generalizing s with
  | zero => exact Nat.le_refl _
  | succ n ih =>
    unfold State.activations
    split
    · exact (s.completions_activateHead_le z).trans (ih _)
    · exact Nat.le_refl _

/-- R26: the end of a job adds its record, whatever is activated after it. -/
theorem State.completions_endJob_considerActivation_lt {s : State} {z : Fin 8} {a : ActiveJob}
    (ha : (s.zone z).active = some a) (o : JobOutcome) (time : Word) :
    (s.zone z).completions.length < (((s.endJob z o time).considerActivation z).zone z).completions.length := by
  refine Nat.lt_of_lt_of_le ?_ (State.completions_considerActivation_le _ z)
  rw [State.endJob_zone_self s z a ha]
  simp

/-! ### The two releases (R98, R99) -/

/-- The active job with its released flag set (R98). -/
def ActiveJob.asReleased (a : ActiveJob) : ActiveJob := { a with job := { a.job with released := true } }

/-- R90 test 3, of a HOLD job whose released flag has just been set. -/
theorem intervalDecision_asReleased {a : ActiveJob} (hhold : a.job.mode.isHold = true) (t : Template) :
    intervalDecision a.asReleased t = if 1 + t.header.minRepeats.toNat ≤ a.framesStarted then some .released else none := by
  obtain ⟨o, hmode⟩ := (JobMode.isHold_iff _).mp hhold
  have hreleased : holdReleased a.asReleased t = true ↔ 1 + t.header.minRepeats.toNat ≤ a.framesStarted :=
    (holdReleased_iff (a := a.asReleased) hmode t).trans (and_iff_right rfl)
  rw [intervalDecision_hold (a := a.asReleased) hhold]
  simp only [hreleased]

/-- The zone's active job has its released flag set (R98). -/
def State.activeReleased (s : State) (z : Fin 8) (a : ActiveJob) : State :=
  { s with zones := s.zones.set z { s.zone z with active := some a.asReleased } }

theorem State.zone_activeReleased (s : State) (z : Fin 8) (a : ActiveJob) :
    (s.activeReleased z a).zone z = { s.zone z with active := some a.asReleased } := by
  simp [State.activeReleased, State.zone]

section
variable {s : State} {z : Fin 8} {a : ActiveJob}

theorem State.releaseActive_eq (ha : (s.zone z).active = some a) :
    s.releaseActive z = (s.activeReleased z a).decideAgain z := by
  rw [State.releaseActive, State.updActive_eq ha]; rfl

/-- R98: outside INTERVAL, and before the minimum repeats have been played, the flag is all that a release sets. -/
theorem State.releaseActive_stays (ha : (s.zone z).active = some a) (hhold : a.job.mode.isHold = true)
    (hstays : a.state ≠ .interval ∨ a.framesStarted < 1 + (s.template a.job.template).header.minRepeats.toNat) :
    s.releaseActive z = s.activeReleased z a := by
  rw [State.releaseActive_eq ha]
  refine State.decideAgain_stays (a := a.asReleased) (by rw [State.zone_activeReleased]) (hstays.imp id fun hfew => ?_)
  exact (intervalDecision_asReleased hhold _).trans (if_neg (Nat.not_le.mpr hfew))

/-- R98, R91: in INTERVAL the job ends once its minimum repeats have been played. -/
theorem State.releaseActive_ends (ha : (s.zone z).active = some a) (hhold : a.job.mode.isHold = true) {p : PlayState} {e : Nat}
    (hp : a.play = some p) (hphase : p.phase = none) (hlast : p.lastPhaseEnd = some e)
    (hplayed : 1 + (s.template a.job.template).header.minRepeats.toNat ≤ a.framesStarted) :
    s.releaseActive z = ((s.activeReleased z a).endJob z .released (reading e)).considerActivation z := by
  rw [State.releaseActive_eq ha]
  exact State.decideAgain_ends (a := a.asReleased) (by rw [State.zone_activeReleased]) hp hphase hlast
    ((intervalDecision_asReleased hhold _).trans (if_pos hplayed))

/-- Jobs of other tags stay as they are (R99). -/
theorem map_released_of_ne {tag : Half} {jobs : List Job} (h : ∀ k ∈ jobs, k.tag ≠ tag) :
    (jobs.map fun k => if k.tag = tag then { k with released := true } else k) = jobs :=
  (List.map_congr_left fun k hk => if_neg (h k hk)).trans (List.map_id jobs)

/-- R99: the job that carries the tag is released where it stands. -/
theorem State.releaseQueued_eq {tag : Half} {j : Job} {before behind : List Job}
    (hq : (s.zone z).queue = before ++ j :: behind) (hj : j.tag = tag) (hothers : ∀ k ∈ before ++ behind, k.tag ≠ tag) :
    s.releaseQueued z tag = { s with zones := s.zones.set z { s.zone z with
      queue := before ++ { j with released := true } :: behind } } := by
  rw [List.forall_mem_append] at hothers
  obtain ⟨hbefore, hbehind⟩ := hothers
  rw [State.releaseQueued, State.updZone, State.setZone, hq, List.map_append, List.map_cons, if_pos hj,
    map_released_of_ne hbefore, map_released_of_ne hbehind]

theorem State.state_releaseQueued (s : State) (z : Fin 8) (tag : Half) :
    ((s.releaseQueued z tag).zone z).state = (s.zone z).state := by
  rw [State.releaseQueued, State.zone_updZone_self]
  exact Zone.state_congr rfl rfl rfl rfl (by simp)

end

/-! ### What a release answers (R97) -/

section
variable {s : State} {z : Fin 8} {tag : Half}

/-- Test 1 of R97. -/
theorem State.release_active (hquiet : (s.zone z).quietEnd = none) {a : ActiveJob} (ha : (s.zone z).activeWith tag = some a)
    (hhold : a.job.mode.isHold = true) (hkept : a.job.released = false) :
    s.release z tag = accept (s.releaseActive z) (.jobActive z tag a.framesStarted
      (decide ((s.zone z).completions.length < ((s.releaseActive z).zone z).completions.length))
      ((s.releaseActive z).zone z).state) := by
  simp [State.release, hquiet, ha, Job.releasable, hhold, hkept]

/-- Test 2 of R97. -/
theorem State.release_queued (hquiet : (s.zone z).quietEnd = none) (ha : (s.zone z).activeWith tag = none) {j : Job}
    (hj : (s.zone z).queuedWith tag = some j) (hhold : j.mode.isHold = true) (hkept : j.released = false) :
    s.release z tag = accept (s.releaseQueued z tag) (.releaseQueued z tag ((s.zone z).placeOf tag)
      ((s.releaseQueued z tag).zone z).state) := by
  simp [State.release, hquiet, ha, hj, Job.releasable, hhold, hkept]

/-- Tests 3 to 6 of R97: nothing that the tag names can be released. -/
theorem State.release_again (hquiet : (s.zone z).quietEnd = none)
    (ha : ∀ a, (s.zone z).activeWith tag = some a → a.job.releasable = false)
    (hj : ∀ j, (s.zone z).queuedWith tag = some j → j.releasable = false) :
    s.release z tag = s.releaseAgain z tag := by
  have hactive : (((s.zone z).activeWith tag).any fun a => a.job.releasable) = false := (Option.any_eq_false ..).mpr ha
  have hqueued : ((s.zone z).queuedWith tag).any Job.releasable = false := (Option.any_eq_false ..).mpr hj
  simp [State.release, hquiet, hactive, hqueued]

/-- Tests 3 and 4 of R97, of the active job. -/
theorem State.release_active_again (hquiet : (s.zone z).quietEnd = none) {a : ActiveJob}
    (ha : (s.zone z).activeWith tag = some a) (hj : (s.zone z).queuedWith tag = none) (hnot : a.job.releasable = false) :
    s.release z tag =
      if a.job.mode.isHold then refuseWith s .already (.releaseAlready .active (some a.framesStarted))
      else refuseWith s .notHold (.notHold .active (some (a.framesStarted, a.framesTarget))) := by
  rw [State.release_again hquiet (by simp [ha, hnot]) (by simp [hj])]
  simp only [State.releaseAgain, ha]

/-- Tests 3 and 4 of R97, of a queued job. -/
theorem State.release_queued_again (hquiet : (s.zone z).quietEnd = none) (ha : (s.zone z).activeWith tag = none) {j : Job}
    (hj : (s.zone z).queuedWith tag = some j) (hnot : j.releasable = false) :
    s.release z tag =
      if j.mode.isHold then refuseWith s .already (.releaseAlready .queued none)
      else refuseWith s .notHold (.notHold .queued none) := by
  rw [State.release_again hquiet (by simp [ha]) (by simp [hj, hnot])]
  simp only [State.releaseAgain, ha, hj]

/-- Tests 5 and 6 of R97, of a tag that no live job carries. -/
theorem State.release_late (hquiet : (s.zone z).quietEnd = none) (hnone : ∀ j ∈ (s.zone z).jobs, j.tag ≠ tag) :
    s.release z tag = s.releaseLate z tag := by
  obtain ⟨ha, hj⟩ := Zone.forall_jobs_tag_ne_iff.mp hnone
  rw [State.release_again hquiet (by simp [ha]) (by simp [hj])]
  simp only [State.releaseAgain, ha, hj]

/-- R101: the newest record of the tag tells a release that comes too late. -/
theorem State.releaseLate_record {c : Completion} (hc : (s.zone z).newestRecord tag = some c) :
    s.releaseLate z tag =
      if c.outcome = .limit then refuseWith s .tooLate (.tooLate tag c.framesStarted c.endTime) else refuse s .notFound := by
  simp only [State.releaseLate, hc]

theorem State.releaseLate_no_record (hnone : (s.zone z).newestRecord tag = none) :
    s.releaseLate z tag = refuse s .notFound := by
  simp only [State.releaseLate, hnone]

end

/-- A JOB RELEASE on a zone, once what the release makes of it is known. -/
theorem exec_jobRelease {q : Byte} {tag : Half} {s : State} (hs : s.ready) {z : Fin 8} {r : Answer}
    (h : s.release z tag = r) : exec (.jobRelease q (byteOf z) tag) s =
      .next (r.state.replying 0x29#8 q r.status r.fields) := by
  have ha : jobRelease (byteOf z) tag s = r := by simp [jobRelease, h]
  exact exec_answer (.jobRelease (byteOf z) tag) rfl rfl hs ha

/-- Settles O28: what the tag finds in the zone, test by test. -/
theorem jobReleaseLookup : Obligations.JobReleaseLookup := by
  refine fun q tag s hs => ⟨fun zone hzone => ?badField, fun z => ⟨fun hquiet => ?busy, fun hquiet =>
    ⟨fun a ha htag hhold hkept => ⟨s.activeReleased z a, rfl, fun hstays => ?stays, fun p e hp hphase hlast hplayed => ?ends⟩,
      fun j before behind hactive hq hj hothers hhold hkept => ⟨_, rfl, ?queued⟩,
      fun a ha htag hqueue => ⟨fun hhold hreleased => ?activeAlready, fun htap => ?activeTap⟩,
      fun j hactive hj => ⟨fun hhold hreleased => ?queuedAlready, fun htap => ?queuedTap⟩,
      fun hnone => ⟨fun older c newer hrecords hc hnewer hlimit => ?tooLate,
        fun older c newer hrecords hc hnewer hother => ?otherOutcome, fun hrecords => ?noRecord⟩⟩⟩⟩
  case badField =>
    have ha : jobRelease zone tag s = refuse s .badField := by simp [jobRelease, index?_eq_none hzone]
    exact exec_answer (.jobRelease zone tag) rfl rfl hs ha
  case busy =>
    have k : s.release z tag = refuse s .busy := if_pos hquiet
    exact exec_jobRelease hs k
  case stays =>
    have k := State.release_active hquiet (Zone.activeWith_eq_some_iff.mpr ⟨ha, htag⟩) hhold hkept
    rw [State.releaseActive_stays ha hhold hstays] at k
    have hsame : ¬ (s.zone z).completions.length < ((s.activeReleased z a).zone z).completions.length := by
      simp [State.zone_activeReleased]
    rw [decide_eq_false hsame] at k
    exact exec_jobRelease hs k
  case ends =>
    have k := State.release_active hquiet (Zone.activeWith_eq_some_iff.mpr ⟨ha, htag⟩) hhold hkept
    rw [State.releaseActive_ends ha hhold hp hphase hlast hplayed] at k
    have hmore := State.completions_endJob_considerActivation_lt (s := s.activeReleased z a) (z := z)
      (by rw [State.zone_activeReleased]) .released (reading e)
    rw [State.zone_activeReleased] at hmore
    rw [decide_eq_true hmore] at k
    exact ⟨_, rfl, exec_jobRelease hs k⟩
  case queued =>
    have hbefore := (List.forall_mem_append.mp hothers).1
    have k := State.release_queued hquiet (Zone.activeWith_eq_none_iff.mpr hactive) (Zone.queuedWith_split hq hj hbefore)
      hhold hkept
    rw [State.state_releaseQueued, Zone.placeOf_split hq hj hbefore, State.releaseQueued_eq hq hj hothers] at k
    exact exec_jobRelease hs k
  case activeAlready =>
    have k := State.release_active_again hquiet (Zone.activeWith_eq_some_iff.mpr ⟨ha, htag⟩)
      (Zone.queuedWith_eq_none_iff.mpr hqueue) (by simp [Job.releasable, hreleased])
    exact exec_jobRelease hs (k.trans (if_pos hhold))
  case activeTap =>
    have k := State.release_active_again hquiet (Zone.activeWith_eq_some_iff.mpr ⟨ha, htag⟩)
      (Zone.queuedWith_eq_none_iff.mpr hqueue) (by simp [Job.releasable, htap])
    exact exec_jobRelease hs (k.trans (if_neg (by simp [htap])))
  case queuedAlready =>
    have k := State.release_queued_again hquiet (Zone.activeWith_eq_none_iff.mpr hactive) hj
      (by simp [Job.releasable, hreleased])
    exact exec_jobRelease hs (k.trans (if_pos hhold))
  case queuedTap =>
    have k := State.release_queued_again hquiet (Zone.activeWith_eq_none_iff.mpr hactive) hj (by simp [Job.releasable, htap])
    exact exec_jobRelease hs (k.trans (if_neg (by simp [htap])))
  case tooLate =>
    have k := (State.release_late hquiet hnone).trans
      (State.releaseLate_record (Zone.newestRecord_split hrecords hc hnewer))
    exact exec_jobRelease hs (k.trans (if_pos hlimit))
  case otherOutcome =>
    have k := (State.release_late hquiet hnone).trans
      (State.releaseLate_record (Zone.newestRecord_split hrecords hc hnewer))
    exact exec_jobRelease hs (k.trans (if_neg hother))
  case noRecord =>
    have k := (State.release_late hquiet hnone).trans (State.releaseLate_no_record (Zone.newestRecord_eq_none hrecords))
    exact exec_jobRelease hs k

end Sys2Proof.Machine
end

section
/-!
Cancellation (R104 to R113): what becomes of a queued and of an active job, then what JOB CANCEL and ZONE FLUSH answer.
-/
namespace Sys2Proof.Machine

/-! ### The immediate end (R106, R107, R109, R84) -/

section
variable {s : State} {z : Fin 8}

/-- R84: behind a gate that is closed now, a high half in progress completes unless it begins at this instant. -/
theorem State.emission_regated_closed (hclosed : (s.zone z).gateOpen = false) (wasOpen : Bool) :
    ((s.regated z wasOpen).zone z).emission =
      if wasOpen = true ∧ ∃ e ∈ (s.zone z).emission, e.start = s.ticks then none else (s.zone z).emission := by
  have hout : ((s.regated z wasOpen).zone z).emission =
      gateEmission (s.zone z) (s.boundWave z) s.ticks wasOpen (s.zone z).gateOpen := by
    simp [State.regated, State.zone]
  rw [hout, hclosed]
  cases wasOpen with
  | false => rw [if_neg fun ⟨hopen, _⟩ => Bool.false_ne_true hopen]; rfl
  | true => simp only [gateEmission, true_and]

theorem State.zone_regated_ne (s : State) {y z : Fin 8} (wasOpen : Bool) (hy : y ≠ z) :
    (s.regated z wasOpen).zone y = s.zone y :=
  State.zone_setZone_ne s _ hy

theorem State.zone_regated (s : State) (z : Fin 8) (wasOpen : Bool) : (s.regated z wasOpen).zone z =
    { s.zone z with emission := ((s.regated z wasOpen).zone z).emission } := by
  simp [State.regated, State.zone]

/-- R82: a zone without a job has its gate closed. -/
theorem Zone.gateOpen_idle {zn : Zone} (hidle : zn.active = none) : zn.gateOpen = false := by
  simp [Zone.gateOpen, Zone.phase, hidle]

/-- R106, R107, R109: the job ends with the reading of the request, and the gate follows. -/
theorem State.cancelNow_eq (s : State) (z : Fin 8) : s.cancelNow z =
    ((s.endJob z .cancelled s.timeBase).regated z (s.zone z).gateOpen).considerActivation z := by
  rw [State.cancelNow, State.gateMoved_eq]

end

/-- Settles O30: the end of the job, then the output behind a gate that has closed. -/
theorem immediateEndKeepsHighHalf : Obligations.ImmediateEndKeepsHighHalf := by
  intro z a s ha
  have hended := s.endJob_zone_self z a ha .cancelled s.timeBase
  have hclosed : ((s.endJob z .cancelled s.timeBase).zone z).gateOpen = false := by
    rw [hended]; exact Zone.gateOpen_idle rfl
  have hout := State.emission_regated_closed hclosed (s.zone z).gateOpen
  have hemission : ((s.endJob z .cancelled s.timeBase).zone z).emission = (s.zone z).emission := by rw [hended]
  rw [hemission, State.endJob_ticks] at hout
  refine ⟨(s.endJob z .cancelled s.timeBase).regated z (s.zone z).gateOpen, s.cancelNow_eq z, rfl, fun y hy => ?others,
    State.zone_regated .., ?closed, fun hshut => ?shut, fun e hopen he hbefore => ?kept, fun e hopen he hnow => ?begun⟩
  case others => rw [State.zone_regated_ne _ _ hy, State.zone_endJob_ne s _ _ hy]
  case closed => rw [State.zone_regated]; exact hclosed
  case shut => rw [hout, if_neg (by simp [hshut])]
  case kept => rw [hout, if_neg (by simp [he, hbefore]), he]
  case begun => rw [hout, if_pos ⟨hopen, e, he, hnow⟩]

/-! ### What a cancel does to a job (R105, R108) -/

section
variable {s : State} {z : Fin 8}

/-- R105: the first job of the tag leaves its place and its claim. -/
theorem State.dropQueued_eq {j : Job} {before behind : List Job} (hq : (s.zone z).queue = before ++ j :: behind)
    (hbefore : ∀ k ∈ before, k.tag ≠ j.tag) :
    s.dropQueued z j = { s with
      zones := s.zones.set z { s.zone z with queue := before ++ behind }
      library := { s.library with
        slots := s.library.slots.set j.template
          ⟨(s.slot j.template).template, (s.slot j.template).useCount - 1⟩ } } := by
  rw [State.dropQueued, State.updZone, State.setZone, hq,
    eraseP_split _ before j behind (fun k hk => decide_eq_false (hbefore k hk)) (decide_eq_true rfl)]
  rfl

/-- R108: the flag is all that a waiting cancel sets. -/
theorem State.cancelLater_eq {a : ActiveJob} (ha : (s.zone z).active = some a) :
    s.cancelLater z = { s with zones := s.zones.set z { s.zone z with
      active := some { a with cancelAfterFrame := true } } } :=
  State.updActive_eq ha _

theorem State.state_cancelLater (s : State) (z : Fin 8) : ((s.cancelLater z).zone z).state = (s.zone z).state := by
  rw [State.cancelLater, State.updActive, State.zone_updZone_self]
  exact Zone.state_congr rfl rfl rfl (by rw [Option.map_map]; rfl) rfl

end

theorem cancelWaits_iff (a : ActiveJob) (mode : CancelMode) :
    cancelWaits a mode = true ↔ mode = .graceful ∧ a.state = .frame := by
  simp [cancelWaits]

/-! ### JOB CANCEL (R104, R110) -/

theorem cancelMode?_eq_none {mode : Byte} (h : 2 ≤ mode.toNat) : cancelMode? mode = none := by
  rw [cancelMode?, if_neg (by bv_omega), if_neg (by bv_omega)]

/-- Table 11-8: 00h is GRACEFUL, and of the two modes the other is IMMEDIATE. -/
theorem cancelMode?_eq_some {mode : Byte} (h : mode.toNat < 2) :
    cancelMode? mode = some (if mode = 0x00#8 then .graceful else .immediate) := by
  rw [cancelMode?]
  split
  · rfl
  · rw [if_pos (by bv_omega)]

theorem jobCancel_undefined {zone mode : Byte} (h : 8 ≤ zone.toNat ∨ 2 ≤ mode.toNat) (tag : Half) (s : State) :
    jobCancel zone tag mode s = refuse s .badField := by
  unfold jobCancel
  split
  · next z m hz hm =>
    have hzone : zone.toNat < 8 := index?_eq_some.mp hz ▸ z.isLt
    exact nomatch hm.symm.trans (cancelMode?_eq_none (h.resolve_left (by omega)))
  · rfl

section
variable {s : State} {z : Fin 8} {tag : Half} {mode : Byte} {m : CancelMode}

theorem jobCancel_quiet (hm : cancelMode? mode = some m) (hquiet : (s.zone z).quietEnd.isSome) :
    jobCancel (byteOf z) tag mode s = refuse s .busy := by
  simp [jobCancel, hm, hquiet]

/-- R105: the queue is searched first. -/
theorem jobCancel_queued (hm : cancelMode? mode = some m) (hquiet : (s.zone z).quietEnd = none) {j : Job}
    (hj : (s.zone z).queuedWith tag = some j) : jobCancel (byteOf z) tag mode s =
      accept (s.dropQueued z j) (.cancelQueued z tag j.template j.mode.isHold ((s.dropQueued z j).zone z).queue.length
        ((s.dropQueued z j).zone z).state) := by
  simp [jobCancel, hm, hquiet, hj]

/-- R104: a tag that only the active job carries. -/
theorem jobCancel_named (hmode : mode.toNat < 2) (hquiet : (s.zone z).quietEnd = none)
    (hqueue : ∀ j ∈ (s.zone z).queue, j.tag ≠ tag) {a : ActiveJob} (ha : (s.zone z).active = some a) (htag : a.job.tag = tag) :
    jobCancel (byteOf z) tag mode s = s.cancelActive z a (if mode = 0x00#8 then .graceful else .immediate) := by
  have hactive := Zone.activeWith_eq_some_iff.mpr ⟨ha, htag⟩
  simp [jobCancel, cancelMode?_eq_some hmode, hquiet, Zone.queuedWith_eq_none_iff.mpr hqueue, hactive]

theorem jobCancel_missing (hm : cancelMode? mode = some m) (hquiet : (s.zone z).quietEnd = none)
    (hnone : ∀ j ∈ (s.zone z).jobs, j.tag ≠ tag) : jobCancel (byteOf z) tag mode s = refuse s .notFound := by
  obtain ⟨ha, hj⟩ := Zone.forall_jobs_tag_ne_iff.mp hnone
  simp [jobCancel, hm, hquiet, hj, ha]

end

theorem exec_jobCancel {q zone mode : Byte} {tag : Half} {s : State} (hs : s.ready) {r : Answer}
    (h : jobCancel zone tag mode s = r) : exec (.jobCancel q zone tag mode) s =
      .next (r.state.replying 0x2A#8 q r.status r.fields) :=
  exec_answer (.jobCancel zone tag mode) rfl rfl hs h

/-- Settles O29: the queued job, the active job by state and mode, no job. -/
theorem jobCancelRemovesEndsOrMarks : Obligations.JobCancelRemovesEndsOrMarks := by
  refine fun q tag s hs => ⟨fun zone mode hbad => ?badField, fun z mode hmode => ⟨fun hquiet => ?busy, fun hquiet =>
    ⟨fun j before behind hq hj hbefore => ⟨_, _, rfl, rfl, ?queued⟩, fun a hqueue ha htag =>
      ⟨fun hgraceful hframe hunmarked => ?marks, fun hgraceful hframe hmarked => ?already, fun hnow => ⟨_, rfl, ?ends⟩⟩,
      fun hnone => ?missing⟩⟩⟩
  case badField => exact exec_jobCancel hs (jobCancel_undefined hbad tag s)
  case busy => exact exec_jobCancel hs (jobCancel_quiet (cancelMode?_eq_some hmode) hquiet)
  case queued =>
    have k := jobCancel_queued (cancelMode?_eq_some hmode) hquiet (Zone.queuedWith_split hq hj hbefore)
    have hdropped := State.dropQueued_eq hq (hj ▸ hbefore)
    have hleft : ((s.dropQueued z j).zone z).queue.length = before.length + behind.length := by
      rw [hdropped]; simp [State.zone]
    rw [hleft, hdropped] at k
    exact exec_jobCancel hs k
  case marks =>
    have k := jobCancel_named hmode hquiet hqueue ha htag
    rw [State.cancelActive, if_pos ((cancelWaits_iff ..).mpr ⟨if_pos hgraceful, hframe⟩), if_neg (by simp [hunmarked]),
      State.state_cancelLater, State.cancelLater_eq ha, htag] at k
    exact exec_jobCancel hs k
  case already =>
    have k := jobCancel_named hmode hquiet hqueue ha htag
    rw [State.cancelActive, if_pos ((cancelWaits_iff ..).mpr ⟨if_pos hgraceful, hframe⟩), if_pos hmarked] at k
    exact exec_jobCancel hs k
  case ends =>
    have k := jobCancel_named hmode hquiet hqueue ha htag
    have hnever : ¬ cancelWaits a (if mode = 0x00#8 then .graceful else .immediate) = true := by
      rw [cancelWaits_iff]
      rintro ⟨hgraceful, hframe⟩
      rcases hnow with rfl | hother
      · exact nomatch hgraceful
      · exact hother hframe
    rw [State.cancelActive, if_neg hnever, htag] at k
    exact exec_jobCancel hs k
  case missing => exact exec_jobCancel hs (jobCancel_missing (cancelMode?_eq_some hmode) hquiet hnone)

/-! ### What a flush does to the zone (R112) -/

section
variable {s : State} {z : Fin 8}

/-- R112: the queue is empty, and of the library the use counts alone have moved. -/
theorem State.dropQueue_eq (s : State) (z : Fin 8) : s.dropQueue z = { s with
    zones := s.zones.set z { s.zone z with queue := [] }
    library := { s.library with slots := (s.dropQueue z).library.slots } } := by
  rw [State.dropQueue, State.dropUses_eq]; rfl

theorem State.slot_dropQueue (s : State) (z : Fin 8) (i : Fin 64) : (s.dropQueue z).slot i =
    ⟨(s.slot i).template,
      (s.slot i).useCount - ((s.zone z).queue.filter fun j => decide (j.template = i)).length⟩ :=
  s.slot_dropUses (s.zone z).queue i

theorem State.active_dropQueue (s : State) (z : Fin 8) : ((s.dropQueue z).zone z).active = (s.zone z).active := by
  simp [State.dropQueue]

theorem State.flushActive_idle (ha : (s.zone z).active = none) (action : Option CancelMode) :
    s.flushActive z action = (s, .none) := by
  simp only [State.flushActive, ha]

variable {a : ActiveJob}

theorem State.flushActive_keep (ha : (s.zone z).active = some a) :
    s.flushActive z none = (s, .kept a.job.tag a.framesStarted) := by
  simp only [State.flushActive, ha]

theorem State.flushActive_cancel (ha : (s.zone z).active = some a) (m : CancelMode) :
    s.flushActive z (some m) =
      if cancelWaits a m then (s.cancelLater z, .pending a.job.tag a.framesStarted)
      else (s.cancelNow z, .ended a.job.tag a.framesStarted) := by
  simp only [State.flushActive, ha]

end

/-! ### ZONE FLUSH (R112, R113) -/

theorem flushAction?_eq_none {action : Byte} (h : 3 ≤ action.toNat) : flushAction? action = none := by
  rw [flushAction?, if_neg (by bv_omega), if_neg (by bv_omega), if_neg (by bv_omega)]

theorem flushAction?_isSome {action : Byte} (h : action.toNat < 3) : ∃ m, flushAction? action = some m := by
  rw [flushAction?]
  split
  · exact ⟨_, rfl⟩
  split
  · exact ⟨_, rfl⟩
  · exact ⟨_, if_pos (by bv_omega)⟩

theorem zoneFlush_undefined {zone action : Byte} (h : 8 ≤ zone.toNat ∨ 3 ≤ action.toNat) (s : State) :
    zoneFlush zone action s = refuse s .badField := by
  unfold zoneFlush
  split
  · next z m hz hm =>
    have hzone : zone.toNat < 8 := index?_eq_some.mp hz ▸ z.isLt
    exact nomatch hm.symm.trans (flushAction?_eq_none (h.resolve_left (by omega)))
  · rfl

section
variable {s : State} {z : Fin 8} {action : Byte} {m : Option CancelMode}

theorem zoneFlush_quiet (hm : flushAction? action = some m) (hquiet : (s.zone z).quietEnd.isSome) :
    zoneFlush (byteOf z) action s = refuse s .busy := by
  simp [zoneFlush, hm, hquiet]

/-- R113: the tags that left, the active result, and the state that the zone then is in. -/
theorem zoneFlush_flushed (hm : flushAction? action = some m) (hquiet : (s.zone z).quietEnd = none) {t : State}
    {result : FlushResult} (hflush : (s.dropQueue z).flushActive z m = (t, result)) :
    zoneFlush (byteOf z) action s =
      accept t (.zoneFlush z ((s.zone z).queue.map Job.tag) result (t.zone z).state) := by
  simp [zoneFlush, hm, hquiet, hflush]

end

theorem exec_zoneFlush {q zone action : Byte} {s : State} (hs : s.ready) {r : Answer}
    (h : zoneFlush zone action s = r) : exec (.zoneFlush q zone action) s =
      .next (r.state.replying 0x2B#8 q r.status r.fields) :=
  exec_answer (.zoneFlush zone action) rfl rfl hs h

/-- Settles O31: the queue and its claims, then the action on the active job. -/
theorem zoneFlushRemovesThenActs : Obligations.ZoneFlushRemovesThenActs := by
  refine fun q s hs => ⟨fun zone action hbad => ?badField, fun z action haction => ⟨fun hquiet => ?busy, fun hquiet =>
    ⟨s.dropQueue z, _, rfl, s.slot_dropQueue z, s.dropQueue_eq z, fun hidle => ?idle, fun a ha =>
      ⟨fun hkeep => ?keep, fun hgraceful hframe => ⟨_, rfl, ?marks⟩, fun hnow => ⟨_, rfl, ?ends⟩⟩⟩⟩⟩
  case badField => exact exec_zoneFlush hs (zoneFlush_undefined hbad s)
  case busy =>
    obtain ⟨m, hm⟩ := flushAction?_isSome haction
    exact exec_zoneFlush hs (zoneFlush_quiet hm hquiet)
  case idle =>
    obtain ⟨m, hm⟩ := flushAction?_isSome haction
    have hflush := State.flushActive_idle ((s.active_dropQueue z).trans hidle) m
    exact exec_zoneFlush hs (zoneFlush_flushed hm hquiet hflush)
  case keep =>
    subst hkeep
    have hflush := State.flushActive_keep ((s.active_dropQueue z).trans ha)
    exact exec_zoneFlush hs (zoneFlush_flushed rfl hquiet hflush)
  case marks =>
    subst hgraceful
    have hactive := (s.active_dropQueue z).trans ha
    have hflush := (State.flushActive_cancel hactive .graceful).trans (if_pos ((cancelWaits_iff ..).mpr ⟨rfl, hframe⟩))
    rw [State.cancelLater_eq hactive] at hflush
    exact exec_zoneFlush hs (zoneFlush_flushed rfl hquiet hflush)
  case ends =>
    have ended {m : CancelMode} (hm : flushAction? action = some (some m)) (hnever : ¬ cancelWaits a m = true) :=
      exec_zoneFlush (q := q) hs (zoneFlush_flushed hm hquiet
        ((State.flushActive_cancel ((s.active_dropQueue z).trans ha) m).trans (if_neg hnever)))
    rcases hnow with rfl | ⟨rfl, hother⟩
    · exact ended rfl fun hwaits => nomatch ((cancelWaits_iff ..).mp hwaits).1
    · exact ended rfl fun hwaits => hother ((cancelWaits_iff ..).mp hwaits).2

end Sys2Proof.Machine
end

section
/-!
Emitter drivers, faults and zone reset (R115 to R126): what FAULT CLEAR and ZONE RESET answer, what a reset gives back, the
end of the quiet time, then what a driver fault does.
-/
namespace Sys2Proof.Machine

/-! ### FAULT CLEAR (R120) -/

section
variable {s : State} {z : Fin 8}

theorem faultClear_undefined {zone : Byte} (h : 8 ≤ zone.toNat) (s : State) : faultClear zone s = refuse s .badField := by
  simp only [faultClear, index?_eq_none h]

theorem faultClear_quiet (hquiet : (s.zone z).quietEnd.isSome) : faultClear (byteOf z) s = refuse s .busy := by
  simp only [faultClear, index?_byteOf_8, if_pos hquiet]

theorem faultClear_other (hquiet : (s.zone z).quietEnd = none) (hother : (s.zone z).state ≠ .faulted) :
    faultClear (byteOf z) s = refuse s .badState := by
  simp [faultClear, hquiet, hother]

/-- The condition becomes NORMAL, and the activation condition is tested. -/
theorem faultClear_faulted (hfaulted : (s.zone z).state = .faulted) {t : State}
    (ht : t = { s with zones := s.zones.set z { s.zone z with condition := .normal } }.considerActivation z) :
    faultClear (byteOf z) s =
      accept t (.faultClear z (s.zone z).condition (s.zone z).queue.length (t.zone z).state) := by
  obtain ⟨hquiet, -⟩ := (Zone.state_eq_iff _ .faulted).mp hfaulted
  subst ht
  simp [faultClear, hquiet, hfaulted, State.updZone, State.setZone]

end

/-- Settles O32: the three checks in order, then the zone that leaves FAULTED. -/
theorem faultClearLeavesFaulted : Obligations.FaultClearLeavesFaulted := by
  refine fun q s hs => ⟨fun zone hzone => ?badField, fun z => ⟨fun hquiet => ?busy, fun hquiet hother => ?badState,
    fun hfaulted => ⟨_, rfl, ?cleared⟩⟩⟩
  case badField => exact exec_answer (.faultClear zone) rfl rfl hs (faultClear_undefined hzone s)
  case busy => exact exec_answer (.faultClear (byteOf z)) rfl rfl hs (faultClear_quiet hquiet)
  case badState => exact exec_answer (.faultClear (byteOf z)) rfl rfl hs (faultClear_other hquiet hother)
  case cleared => exact exec_answer (.faultClear (byteOf z)) rfl rfl hs (faultClear_faulted hfaulted rfl)

/-! ### What a zone reset gives back (R122 steps 2 to 4) -/

/-- R50, R51, R70: the entry in the waiting list, the locks and the carrier are given back, and nothing else moves. -/
theorem State.giveBack_eq (s : State) (z : Fin 8) (binding : Option (Fin 4)) :
    s.giveBack z binding = { s with
      arbiter := { s.arbiter with
        waiting := s.arbiter.waiting.filter fun w => decide (w ≠ z)
        locks := mapVector (fun l => if l = some z then none else l) s.arbiter.locks }
      generators := (s.releaseBinding z binding).generators } := by
  cases binding <;> rfl

section
variable {s : State} {z : Fin 8}

theorem State.discardActive_idle (ha : (s.zone z).active = none) : s.discardActive z = s := by
  rw [State.discardActive, ha]

theorem State.discardActive_busy {a : ActiveJob} (ha : (s.zone z).active = some a) :
    s.discardActive z = (s.giveBack z a.binding).dropUse a.job.template := by
  rw [State.discardActive, ha]

end

section
variable (s : State) (z : Fin 8)

/-- R122: the zone is cleared and its quiet time begins; what its active job held is given back, and use counts fall. -/
theorem State.resetZone_eq : s.resetZone z = { s with
    zones := s.zones.set z ((s.zone z).cleared (s.ticks + Config.quietTicks))
    arbiter := { s.arbiter with
      waiting := (s.discardActive z).arbiter.waiting, locks := (s.discardActive z).arbiter.locks }
    generators := (s.discardActive z).generators
    library := { s.library with slots := (s.resetZone z).library.slots } } := by
  cases ha : (s.zone z).active with
  | none => rw [State.resetZone, State.discardActive_idle ha, State.dropUses_eq]; rfl
  | some a => rw [State.resetZone, State.discardActive_busy ha, State.dropUses_eq, State.giveBack_eq]; rfl

/-- R122 step 4: each live job of the zone gives back its claim. -/
theorem State.slot_resetZone (i : Fin 64) : (s.resetZone z).slot i =
    ⟨(s.slot i).template,
      (s.slot i).useCount - ((s.zone z).jobs.filter fun j => decide (j.template = i)).length⟩ := by
  cases ha : (s.zone z).active with
  | none =>
    have hclaims : (s.resetZone z).slot i = (s.dropUses (s.zone z).jobs).slot i := by
      rw [State.resetZone, State.discardActive_idle ha, Zone.jobs_idle ha]; rfl
    rw [hclaims, State.slot_dropUses]
  | some a =>
    have hclaims : (s.resetZone z).slot i = ((s.giveBack z a.binding).dropUses (s.zone z).jobs).slot i := by
      rw [State.resetZone, State.discardActive_busy ha, Zone.jobs_busy ha]; rfl
    rw [hclaims, State.slot_dropUses, State.slot_giveBack]

/-- R31: a zone that has just been reset is RESETTING. -/
theorem State.state_resetZone : ((s.resetZone z).zone z).state = .resetting := by
  rw [State.resetZone, State.zone_updZone_self]
  exact Zone.state_of_stateHolds (st := .resetting) nofun

end

/-! ### ZONE RESET (R122) and the quiet time (R123) -/

section
variable {s : State} {z : Fin 8}

theorem zoneReset_undefined {zone : Byte} (h : 8 ≤ zone.toNat) (s : State) : zoneReset zone s = refuse s .badField := by
  simp only [zoneReset, index?_eq_none h]

theorem zoneReset_quiet (hquiet : (s.zone z).quietEnd.isSome) : zoneReset (byteOf z) s = refuse s .busy := by
  simp only [zoneReset, index?_byteOf_8, if_pos hquiet]

theorem zoneReset_taken (hquiet : (s.zone z).quietEnd = none) : zoneReset (byteOf z) s =
    accept (s.resetZone z) (.zoneReset z ((s.zone z).active.map fun a => a.job.tag) ((s.zone z).queue.map Job.tag)
      (s.zone z).completions.length .resetting) := by
  simp [zoneReset, hquiet, State.state_resetZone]

/-- R123: the zone leaves RESETTING for the state that its enabled field then gives. -/
theorem Zone.state_quietOver {zn : Zone} (hidle : zn.active = none) (hqueue : zn.queue = [])
    (hnormal : zn.condition = .normal) :
    Zone.state { zn with quietEnd := none } = if zn.config.enabled then .idle else .disabled := by
  split
  · next hon => exact Zone.state_of_stateHolds (st := .idle) ⟨rfl, hon, hidle, hnormal, hqueue⟩
  · next hoff => exact Zone.state_of_stateHolds (st := .disabled) ⟨rfl, Bool.eq_false_iff.mpr hoff⟩

theorem quietTimeExpiry_running {d : Nat} (hquiet : (s.zone z).quietEnd = some d) : quietTimeExpiry z s =
    { s with ticks := max s.ticks d, zones := s.zones.set z { s.zone z with quietEnd := none } } := by
  rw [quietTimeExpiry, hquiet]; rfl

theorem quietTimeExpiry_stopped (hquiet : (s.zone z).quietEnd = none) : quietTimeExpiry z s = s := by
  rw [quietTimeExpiry, hquiet]

end

theorem exec_quietTimeExpiry (z : Fin 8) (s : State) : exec (.quietTimeExpiry z) s = .next (quietTimeExpiry z s) := rfl

/-- Settles O33: the two checks, then what the reset clears and gives back, then the end of the quiet time. -/
theorem zoneResetClearsZone : Obligations.ZoneResetClearsZone := by
  refine ⟨fun q s hs => ⟨fun zone hzone => ?badField, fun z => ⟨fun hquiet => ?busy, fun hquiet =>
    ⟨s.resetZone z, ?taken, ?frame, ?zones, s.slot_resetZone z, ?library, ?arbiter, fun hidle => ?idle, fun a ha =>
      ⟨?waiting, fun g => ?locks, fun g => ?generators⟩⟩⟩⟩,
    fun z s => ⟨fun d hquiet => ⟨_, exec_quietTimeExpiry z s, quietTimeExpiry_running hquiet,
      fun hidle hqueue hnormal => ?quietOver⟩, fun hquiet => ?stopped⟩⟩
  case badField => exact exec_answer (.zoneReset zone) rfl rfl hs (zoneReset_undefined hzone s)
  case busy => exact exec_answer (.zoneReset (byteOf z)) rfl rfl hs (zoneReset_quiet hquiet)
  case taken => exact exec_answer (.zoneReset (byteOf z)) rfl rfl hs (zoneReset_taken hquiet)
  case frame => rw [State.resetZone_eq]
  case zones => rw [State.resetZone_eq]; rfl
  case library => rw [State.resetZone_eq]
  case arbiter => rw [State.resetZone_eq]
  case idle => rw [State.resetZone_eq, State.discardActive_idle hidle]; exact ⟨rfl, rfl⟩
  case waiting => rw [State.resetZone_eq, State.discardActive_busy ha, State.giveBack_eq]; rfl
  case locks =>
    rw [State.resetZone_eq, State.discardActive_busy ha, State.giveBack_eq]
    exact mapVector_getElem _ _ _ _
  case generators =>
    rw [State.resetZone_eq, State.discardActive_busy ha, State.giveBack_eq]
    exact State.generator_releaseBinding s z a.binding g
  case quietOver =>
    rw [quietTimeExpiry_running hquiet, ← Zone.state_quietOver hidle hqueue hnormal]
    simp [State.zone]
  case stopped => rw [exec_quietTimeExpiry, quietTimeExpiry_stopped hquiet]

/-! ### The driver fault (R116 to R118) -/

theorem FaultKind.faultOf_condition (k : FaultKind) : faultOf k.condition = some k := by
  cases k <;> rfl

/-- R118 step 5: a flag already set stays set. -/
theorem Zone.faulted_eq (zn : Zone) (k : FaultKind) : zn.faulted k = { zn with
    condition := k.condition
    openSeen := zn.openSeen || decide (k = .openLoad)
    overloadSeen := zn.overloadSeen || decide (k = .overload) } := by
  cases k <;> simp [Zone.faulted, FaultKind.condition]

/-- R83: a zone that emits nothing behind a closed gate is silent. -/
theorem State.silent {s : State} {z : Fin 8} (hout : (s.zone z).emission = none) (hclosed : (s.zone z).gateOpen = false) :
    s.loopback z = false ∧ s.zout z = false := by
  simp [State.loopback, State.zout, hout, hclosed]

/-- R82: only a zone with an active job has its gate open. -/
theorem Zone.active_of_gateOpen {zn : Zone} (hopen : zn.gateOpen = true) : ∃ a, zn.active = some a := by
  obtain ⟨a, -, -, ha, -⟩ := zn.gateOpen_iff.mp hopen
  exact ⟨a, ha⟩

section
variable {s : State} {z : Fin 8}

/-- The level that the driver stage presents at the pin (R116). -/
def State.presented (s : State) (z : Fin 8) (report : Condition) : State :=
  { s with pins := { s.pins with zsense := s.pins.zsense.set z report } }

@[simp] theorem State.zsense_presented (s : State) (z : Fin 8) (report : Condition) :
    (s.presented z report).pins.zsense[z] = report := by
  simp [State.presented]

theorem driverReport_inReset (hreset : s.assertedReset ≠ none) (report : Condition) :
    driverReport z report s = s.presented z report :=
  if_pos (Option.isSome_iff_ne_none.mpr hreset)

theorem driverReport_sensed (hrun : s.assertedReset = none) (report : Condition) :
    driverReport z report s = (s.presented z report).sense z :=
  if_neg (by simp [hrun])

/-- R116, R117: a report that is not sampled, or is NORMAL, is ignored. -/
theorem driverReport_ignored {report : Condition} (h : s.assertedReset ≠ none ∨ report = .normal
    ∨ (s.zone z).gateOpen = false ∨ (s.zone z).config.dark = true) :
    driverReport z report s = s.presented z report := by
  by_cases hrun : s.assertedReset = none
  · rw [driverReport_sensed hrun]
    rcases h.resolve_left (not_not.mpr hrun) with rfl | hclosed | hdark
    · exact State.sense_normal _ z (.inl (State.zsense_presented ..))
    · exact State.sense_closed _ z hclosed
    · exact State.sense_normal _ z (.inr hdark)
  · exact driverReport_inReset hrun report

/-- R117: a sampled report of OPEN or OVERLOAD is a fault. -/
theorem driverReport_fault (hrun : s.assertedReset = none) (hopen : (s.zone z).gateOpen = true)
    (hlit : (s.zone z).config.dark = false) (k : FaultKind) :
    driverReport z k.condition s = (s.presented z k.condition).driverFault z k := by
  have hsampling : ((s.presented z k.condition).zone z).sampling = true :=
    Bool.and_eq_true_iff.mpr ⟨hopen, (Bool.not_eq_true' _).mpr hlit⟩
  rw [driverReport_sensed hrun, State.sense, if_pos hsampling, State.zsense_presented, FaultKind.faultOf_condition]

end

theorem exec_driverFault (z : Fin 8) (report : Condition) (s : State) :
    exec (.driverFault z report) s = .next (driverReport z report s) := rfl

/-- The zone as its job ends behind a cut output (R118 steps 1 and 2). -/
theorem State.zone_cutOutput_endJob {s : State} {z : Fin 8} {a : ActiveJob} (ha : (s.zone z).active = some a)
    (o : JobOutcome) (time : Word) : ((s.cutOutput z).endJob z o time).zone z = { s.zone z with
      active := none, completions := (s.zone z).completions ++ [a.record o time], emission := none } := by
  have hcut : (s.cutOutput z).zone z = { s.zone z with emission := none } := State.zone_updZone_self ..
  rw [(s.cutOutput z).endJob_zone_self z a (by rw [hcut]; exact ha), hcut]

section
variable {s : State} {z : Fin 8} {a : ActiveJob} (ha : (s.zone z).active = some a) (k : FaultKind)
include ha

/-- R118 step 5: once its job has ended the zone has the condition and the flag of the fault. -/
theorem State.zone_driverFault : (s.driverFault z k).zone z =
    { ((s.cutOutput z).endJob z .fault s.timeBase).zone z with
      condition := k.condition
      openSeen := (s.zone z).openSeen || decide (k = .openLoad)
      overloadSeen := (s.zone z).overloadSeen || decide (k = .overload) } := by
  rw [State.driverFault, State.zone_latchFault, State.zone_updZone_self, Zone.faulted_eq, State.zone_cutOutput_endJob ha]

/-- R118 step 1: the zone is left without a job and without a high half in progress. -/
theorem State.driverFault_idle_cut :
    ((s.driverFault z k).zone z).active = none ∧ ((s.driverFault z k).zone z).emission = none := by
  rw [State.zone_driverFault ha, State.zone_cutOutput_endJob ha]
  exact ⟨rfl, rfl⟩

end

section
variable (s : State) (z : Fin 8) (k : FaultKind)

/-- R118: what steps 5 and 6 add to the end of the job is at the zone and in the notices. -/
theorem State.driverFault_frame : s.driverFault z k = { (s.cutOutput z).endJob z .fault s.timeBase with
    zones := (s.driverFault z k).zones, notices := (s.driverFault z k).notices } := rfl

theorem State.zone_driverFault_of_ne {y : Fin 8} (hy : y ≠ z) :
    (s.driverFault z k).zone y = ((s.cutOutput z).endJob z .fault s.timeBase).zone y := by
  rw [State.driverFault, State.zone_latchFault, State.zone_updZone_ne _ _ hy]

/-- R118 step 6: of the notices the FAULT latch alone moves. -/
theorem State.driverFault_notices : (s.driverFault z k).notices = { s.notices with
    faultLatch := if (z, k) ∈ s.notices.faultLatch then s.notices.faultLatch else s.notices.faultLatch ++ [(z, k)] } := by
  simp [State.driverFault, State.latchFault]

end

/-- Settles O34: the reports that are ignored, then the cut output, the ended job, the condition and the latch. -/
theorem driverFaultEndsJob : Obligations.DriverFaultEndsJob := by
  refine fun z report s => ⟨s.presented z report, rfl, fun hignored => ?ignored, ?fault⟩
  case ignored => rw [exec_driverFault, driverReport_ignored hignored]
  case fault =>
    rintro k hrun rfl hopen hlit
    obtain ⟨a, ha⟩ := Zone.active_of_gateOpen hopen
    obtain ⟨hidle, hcut⟩ := State.driverFault_idle_cut (s := s.presented z k.condition) ha k
    obtain ⟨hloopback, hzout⟩ := State.silent hcut (Zone.gateOpen_idle hidle)
    have hnotices := (s.presented z k.condition).driverFault_notices z k
    have hexec : exec (.driverFault z k.condition) s = .next ((s.presented z k.condition).driverFault z k) := by
      rw [exec_driverFault, driverReport_fault hrun hopen hlit k]
    exact ⟨_, _, hexec, rfl, State.driverFault_frame _ z k,
      fun y hy => State.zone_driverFault_of_ne _ z k hy, State.zone_driverFault (s := s.presented z k.condition) ha k, hidle,
      hloopback, hzout, hnotices.trans (by rw [hnotices]; rfl), congrArg Notices.faultLatch hnotices⟩

end Sys2Proof.Machine
end

section
/-!
Trigger lines (R127 to R139): what a submission makes of the zone, what a taken level does by the line's state and mode, how
the debounce timer comes to a taken level, then what TRIGGER BIND and TRIGGER QUERY answer.
-/
namespace Sys2Proof.Machine

/-! ### Submissions (R131) -/

section
variable {s : State} {b : Binding}

theorem State.lineSubmit_refused {status : Status} (hjudge : s.lineJudge b = some status) (n : Fin 4) (m : JobMode) :
    s.lineSubmit b n m = s.latchTrigger n status := by
  simp only [State.lineSubmit, hjudge]

theorem State.lineSubmit_accepted (hjudge : s.lineJudge b = none) (n : Fin 4) (m : JobMode) :
    s.lineSubmit b n m = s.enqueue b.zone (lineJob b n m) := by
  simp only [State.lineSubmit, hjudge]

end

/-- Settles O48: a submission follows its judgement, and the judgement is that of R33 from check 2 on. -/
theorem triggerSubmissionJudged : Obligations.TriggerSubmissionJudged := by
  refine fun b n m s => ⟨_, _, rfl, rfl, fun status hjudge => State.lineSubmit_refused hjudge n m,
    fun hjudge => ⟨_, rfl, State.lineSubmit_accepted hjudge n m⟩, ?checks⟩
  rw [State.lineJudge]
  by_cases hoff : (s.zone b.zone).config.enabled = false
  · simp [State.judge, hoff]
  rw [if_neg hoff]
  have hon := eq_true_of_ne_false hoff
  by_cases hquiet : (s.zone b.zone).quietEnd ≠ none
  · rw [if_pos hquiet]
    simp [State.judge, hon, Option.isSome_iff_ne_none.mpr hquiet]
  rw [if_neg hquiet]
  rw [not_not] at hquiet
  cases ht : (s.slot b.template).template with
  | none => simp [State.judge, hon, hquiet, ht]
  | some t => exact State.judge_installed hon hquiet ht b.payload.length b.tag

/-! ### The line after an event -/

/-- R129: the line has taken this level, and its debounce timer has stopped. -/
def State.taking (s : State) (n : Fin 4) (level : Bool) : State :=
  { s with lines := s.lines.set n { s.line n with taken := level, debounceEnd := none } }

@[simp] theorem State.line_taking (s : State) (n : Fin 4) (level : Bool) :
    (s.taking n level).line n = { s.line n with taken := level, debounceEnd := none } := by
  simp [State.taking, State.line]

/-- An event that leaves the lines as the taken level made them, and then enters a state of its line. -/
theorem State.lineTo_after_taking {s t : State} {n : Fin 4} {level : Bool} (hlines : t.lines = (s.taking n level).lines)
    (state : LineState) : t.lineTo n state =
      { t with lines := s.lines.set n { s.line n with taken := level, debounceEnd := none, state := state } } := by
  simp [State.lineTo, State.updLine, State.setLine, State.line, hlines, State.taking]

theorem State.release_lines (s : State) (z : Fin 8) (tag : Half) : (s.release z tag).state.lines = s.lines := by
  unfold State.release State.releaseAgain State.releaseLate
  repeat' split
  all_goals simp [accept, refuse, refuseWith]

/-- R135: the line's release is the host's. -/
theorem State.lineRelease_eq (s : State) (b : Binding) :
    s.lineRelease b = (answer (.jobRelease (byteOf b.zone) b.tag) s).state := by
  simp [State.lineRelease, answer, jobRelease]

/-! ### The taken level (R129) -/

section
variable {s : State} {n : Fin 4} {b : Binding}

theorem State.takeLevel_unbound (hb : (s.line n).binding = none) (level : Bool) :
    s.takeLevel n level = s.taking n level := by
  simp only [State.takeLevel, hb]; rfl

/-- R130: a rising event is one of an ARMED line alone. -/
theorem State.takeLevel_high_unarmed (hstate : (s.line n).state ≠ .armed) : s.takeLevel n true = s.taking n true := by
  cases hb : (s.line n).binding with
  | none => exact State.takeLevel_unbound hb true
  | some b => simp only [State.takeLevel, hb, if_true, if_neg hstate]; rfl

theorem State.takeLevel_high_armed (hb : (s.line n).binding = some b) (harmed : (s.line n).state = .armed) :
    s.takeLevel n true = (s.taking n true).rising b n := by
  simp only [State.takeLevel, hb, if_true, if_pos harmed]; rfl

theorem State.takeLevel_low (hb : (s.line n).binding = some b) : s.takeLevel n false = (s.taking n false).falling b n := by
  simp only [State.takeLevel, hb, Bool.false_eq_true, if_false]; rfl

/-- R135: there is no falling event on a line that is ARMED or UNBOUND. -/
theorem State.falling_idle (hstate : (s.line n).state = .unbound ∨ (s.line n).state = .armed) : s.falling b n = s := by
  rcases hstate with h | h <;> simp only [State.falling, h]

theorem State.falling_waiting (hstate : (s.line n).state = .waitLow ∨ (s.line n).state = .fired) :
    s.falling b n = s.lineTo n .armed := by
  rcases hstate with h | h <;> simp only [State.falling, h]

theorem State.falling_holding (hstate : (s.line n).state = .holding) :
    s.falling b n = (s.lineRelease b).lineTo n .armed := by
  simp only [State.falling, hstate]

end

/-! ### The retrigger (R133) -/

section
variable {s : State} {b : Binding} {n : Fin 4}

theorem State.lineActive_eq_some_iff {a : ActiveJob} : s.lineActive b n = some a ↔
    (s.zone b.zone).active = some a ∧ a.job.tag = b.tag ∧ a.job.origin = .trigger n := by
  rw [State.lineActive, Option.filter_eq_some_iff, Zone.activeWith_eq_some_iff, decide_eq_true_iff, and_assoc]

theorem State.lineActive_eq_none_iff : s.lineActive b n = none ↔
    ∀ a, (s.zone b.zone).active = some a → ¬ (a.job.tag = b.tag ∧ a.job.origin = .trigger n) := by
  rw [Option.eq_none_iff_forall_ne_some]
  exact forall_congr' fun a => by rw [Ne, State.lineActive_eq_some_iff, not_and]

theorem State.lineQueued_iff :
    s.lineQueued b n = true ↔ ∃ j ∈ (s.zone b.zone).queue, j.tag = b.tag ∧ j.origin = .trigger n := by
  simp [State.lineQueued]

/-- The active job with the frames target that a retrigger sets. -/
def ActiveJob.retargeted (a : ActiveJob) (repeats : Nat) : ActiveJob :=
  { a with framesTarget := min (a.framesStarted + repeats) 4096 }

/-- The zone's active job has its frames target set again. -/
def State.retargeted (s : State) (z : Fin 8) (a : ActiveJob) (repeats : Nat) : State :=
  { s with zones := s.zones.set z { s.zone z with active := some (a.retargeted repeats) } }

theorem State.zone_retargeted (s : State) (z : Fin 8) (a : ActiveJob) (repeats : Nat) :
    (s.retargeted z a repeats).zone z = { s.zone z with active := some (a.retargeted repeats) } := by
  simp [State.retargeted, State.zone]

/-- R91: of the two tests a TAP job meets the first alone. -/
theorem intervalDecision_tap {a : ActiveJob} {r : Nat} (hmode : a.job.mode = .tap r) (t : Template) :
    intervalDecision a t = if a.framesTarget ≤ a.framesStarted ∨ a.framesStarted = 4096 then some .done else none := by
  have hkept : holdReleased a t = false := by simp [holdReleased, hmode, JobMode.isHold]
  simp only [intervalDecision, tapDone_iff hmode, hkept, Bool.false_eq_true, if_false]

theorem JobMode.isHold_eq_false_iff (m : JobMode) : m.isHold = false ↔ ∃ r, m = .tap r := by
  cases m <;> simp [JobMode.isHold]

section
variable {a : ActiveJob} (ha : s.lineActive b n = some a)
include ha

/-- A job that has not begun to play, or a HOLD job, is left as it is. -/
theorem State.retrigger_ignored (hkept : a.play = none ∨ a.job.mode.isHold = true) (repeats : Nat) :
    s.retrigger b n repeats = s := by
  rcases hkept with hkept | hkept <;> simp [State.retrigger, ha, hkept]

theorem State.retrigger_playing (hplay : a.play ≠ none) (htap : a.job.mode.isHold = false) (repeats : Nat) :
    s.retrigger b n repeats = (s.retargeted b.zone a repeats).decideAgain b.zone := by
  obtain ⟨hactive, -, -⟩ := State.lineActive_eq_some_iff.mp ha
  have hplays := Option.isSome_iff_ne_none.mpr hplay
  simp only [State.retrigger, ha, hplays, htap, Bool.not_false, Bool.and_self, if_true]
  rw [State.updActive_eq hactive]
  rfl

/-- R91: outside INTERVAL, and below the new target, the target is all that a retrigger moves. -/
theorem State.retrigger_stays (hplay : a.play ≠ none) (htap : a.job.mode.isHold = false) {repeats : Nat}
    (hstays : a.state ≠ .interval
      ∨ a.framesStarted < min (a.framesStarted + repeats) 4096 ∧ a.framesStarted ≠ 4096) :
    s.retrigger b n repeats = s.retargeted b.zone a repeats := by
  rw [State.retrigger_playing ha hplay htap]
  refine State.decideAgain_stays (a := a.retargeted repeats) (by rw [State.zone_retargeted]) (hstays.imp id ?_)
  rintro ⟨hbelow, hmax⟩
  obtain ⟨r, hmode⟩ := (JobMode.isHold_eq_false_iff _).mp htap
  rw [intervalDecision_tap (a := a.retargeted repeats) hmode]
  exact if_neg (not_or.mpr ⟨Nat.not_le_of_lt hbelow, hmax⟩)

/-- R91: in INTERVAL a job that has reached the new target is done. -/
theorem State.retrigger_ends (htap : a.job.mode.isHold = false) {repeats : Nat} {p : PlayState} {e : Nat}
    (hp : a.play = some p) (hphase : p.phase = none) (hlast : p.lastPhaseEnd = some e)
    (hreached : min (a.framesStarted + repeats) 4096 ≤ a.framesStarted) :
    s.retrigger b n repeats =
      ((s.retargeted b.zone a repeats).endJob b.zone .done (reading e)).considerActivation b.zone := by
  rw [State.retrigger_playing ha (by simp [hp]) htap]
  refine State.decideAgain_ends (a := a.retargeted repeats) (by rw [State.zone_retargeted]) hp hphase hlast ?_
  obtain ⟨r, hmode⟩ := (JobMode.isHold_eq_false_iff _).mp htap
  rw [intervalDecision_tap (a := a.retargeted repeats) hmode]
  exact if_pos (.inl hreached)

end

/-- A job of the line that waits in the queue keeps the line from a second submission. -/
theorem State.retrigger_queued (ha : s.lineActive b n = none) (hq : s.lineQueued b n = true) (repeats : Nat) :
    s.retrigger b n repeats = s := by
  simp only [State.retrigger, ha, hq, if_true]

theorem State.retrigger_submits (ha : s.lineActive b n = none) (hq : ¬ s.lineQueued b n = true) (repeats : Nat) :
    s.retrigger b n repeats = s.lineSubmit b n (.tap repeats) := by
  simp only [State.retrigger, ha, if_neg hq]

end

/-! ### Rising events by the binding's mode (R132 to R134) -/

section
variable {s : State} {n : Fin 4} {b : Binding} (hb : (s.line n).binding = some b) (harmed : (s.line n).state = .armed)
include hb harmed

/-- The line enters FIRED after a submission (R132). -/
theorem State.takeLevel_edgeTap {r : Nat} (hmode : b.mode = .edgeTap r) : s.takeLevel n true =
    { (s.taking n true).lineSubmit b n (.tap r) with
      lines := s.lines.set n { s.line n with taken := true, debounceEnd := none, state := .fired } } := by
  rw [State.takeLevel_high_armed hb harmed]
  simp only [State.rising, hmode]
  exact State.lineTo_after_taking (State.lineSubmit_lines ..) .fired

/-- The line enters HOLDING once its job is accepted, otherwise FIRED (R134). -/
theorem State.takeLevel_levelHold (hmode : b.mode = .levelHold) : s.takeLevel n true =
    { (s.taking n true).lineSubmit b n (.hold none) with
      lines := s.lines.set n { s.line n with
        taken := true, debounceEnd := none, state := if (s.lineJudge b).isSome then .fired else .holding } } := by
  rw [State.takeLevel_high_armed hb harmed]
  simp only [State.rising, hmode]
  exact State.lineTo_after_taking (State.lineSubmit_lines ..) _

/-- The line enters FIRED after a retrigger, whatever it makes of the zone (R133). -/
theorem State.takeLevel_edgeRetrigger {r : Nat} (hmode : b.mode = .edgeRetrigger r) {t : State}
    (ht : (s.taking n true).retrigger b n r = t) : s.takeLevel n true =
      { t with lines := s.lines.set n { s.line n with taken := true, debounceEnd := none, state := .fired } } := by
  rw [State.takeLevel_high_armed hb harmed]
  simp only [State.rising, hmode, ht]
  exact State.lineTo_after_taking (by rw [← ht, State.retrigger_lines]) .fired

end

/-- Settles O47: the events without effect, the falling events, then the rising events by the binding's mode. -/
theorem lineEventsAct : Obligations.LineEventsAct := by
  refine fun n s => ⟨s.taking n true, s.taking n false, rfl, rfl, ?highIdle, ?lowIdle, fun b hb =>
    ⟨fun hwaiting => ?lowWaiting, fun hholding => ⟨_, rfl, ?lowHolding⟩, fun harmed => ⟨_, _, rfl, rfl,
      fun r hmode => State.takeLevel_edgeTap hb harmed hmode,
      fun hmode => ⟨fun hjudge => ?levelAccepted, fun hjudge => ?levelRefused⟩,
      fun r hmode => ⟨fun a ha htag horigin => ?active, fun hnone => ?other⟩⟩⟩⟩
  case highIdle => exact fun h => h.elim (State.takeLevel_unbound · true) State.takeLevel_high_unarmed
  case lowIdle =>
    intro h
    cases hb : (s.line n).binding with
    | none => exact State.takeLevel_unbound hb false
    | some b =>
      rw [State.takeLevel_low hb]
      exact State.falling_idle (by simpa [hb] using h)
  case lowWaiting =>
    rw [State.takeLevel_low hb, State.falling_waiting (by simpa using hwaiting)]
    exact State.lineTo_after_taking rfl .armed
  case lowHolding =>
    rw [State.takeLevel_low hb, State.falling_holding (by simpa using hholding), ← State.lineRelease_eq]
    exact State.lineTo_after_taking (State.release_lines ..) .armed
  case levelAccepted =>
    rw [State.takeLevel_levelHold hb harmed hmode, hjudge]; rfl
  case levelRefused =>
    rw [State.takeLevel_levelHold hb harmed hmode, if_pos (Option.isSome_iff_ne_none.mpr hjudge)]
  case active =>
    have hline : (s.taking n true).lineActive b n = some a := State.lineActive_eq_some_iff.mpr ⟨ha, htag, horigin⟩
    have fires {t : State} := State.takeLevel_edgeRetrigger (t := t) hb harmed hmode
    refine ⟨fun hkept => fires (State.retrigger_ignored hline hkept r), fun hplay htap => ⟨_, rfl, fun hframe => ?_,
      fun p e hp hphase hlast => ⟨fun hbelow hmax => ?_, fun hreached => ?_⟩⟩⟩
    · exact fires (State.retrigger_stays hline hplay htap (.inl (by simp [hframe])))
    · exact fires (State.retrigger_stays hline hplay htap (.inr ⟨hbelow, hmax⟩))
    · exact fires (State.retrigger_ends hline htap hp hphase hlast hreached)
  case other =>
    have hline : (s.taking n true).lineActive b n = none := State.lineActive_eq_none_iff.mpr hnone
    have fires {t : State} := State.takeLevel_edgeRetrigger (t := t) hb harmed hmode
    refine ⟨fun hqueued => fires (State.retrigger_queued hline (State.lineQueued_iff.mpr hqueued) r),
      fun hnot => fires (State.retrigger_submits hline (fun hqueued => ?_) r)⟩
    obtain ⟨j, hj, hsame⟩ := State.lineQueued_iff.mp hqueued
    exact hnot j hj hsame

/-! ### The pin and the debounce timer (R129) -/

/-- The pin of the line has this level. -/
def State.trigPin (s : State) (n : Fin 4) (level : Bool) : State :=
  { s with pins := { s.pins with trig := s.pins.trig.set n level } }

theorem exec_trigPinChange (n : Fin 4) (level : Bool) (s : State) :
    exec (.trigPinChange n level) s = .next (trigPinChange n level s) := rfl

theorem exec_debounceExpiry (n : Fin 4) (s : State) : exec (.debounceExpiry n) s = .next (debounceExpiry n s) := rfl

section
variable {s : State} {n : Fin 4} {level : Bool}

theorem trigPinChange_still (h : s.assertedReset ≠ none ∨ s.pins.trig[n] = level) :
    trigPinChange n level s = s.trigPin n level := by
  rw [← Option.isSome_iff_ne_none] at h
  exact if_pos h

theorem trigPinChange_moves (hrun : s.assertedReset = none) (hmoved : s.pins.trig[n] ≠ level) :
    trigPinChange n level s = (s.trigPin n level).pinMoved n level :=
  if_neg (not_or.mpr ⟨by simp [hrun], hmoved⟩)

theorem State.pinMoved_returns (hback : (s.line n).taken = level) :
    s.pinMoved n level = { s with lines := s.lines.set n { s.line n with debounceEnd := none } } := by
  rw [State.pinMoved, if_pos hback.symm]; rfl

theorem State.pinMoved_waits (hdiffers : (s.line n).taken ≠ level) (hruns : (s.line n).debounceEnd ≠ none) :
    s.pinMoved n level = s := by
  rw [State.pinMoved, if_neg hdiffers.symm, if_pos (Option.isSome_iff_ne_none.mpr hruns)]

theorem Line.debounceTicks_eq_zero {l : Line} (h : ∀ b, l.binding = some b → b.debounce = 0) : l.debounceTicks = 0 := by
  cases hb : l.binding with
  | none => rw [Line.debounceTicks, hb]; rfl
  | some b => rw [Line.debounceTicks, hb, Option.elim_some, h b hb, Nat.zero_mul]

theorem Line.debounceTicks_bound {l : Line} {b : Binding} (hb : l.binding = some b) : l.debounceTicks = b.debounce * 8 := by
  rw [Line.debounceTicks, hb]; rfl

section
variable (hdiffers : (s.line n).taken ≠ level) (hstopped : (s.line n).debounceEnd = none)
include hdiffers hstopped

theorem State.pinMoved_takes (hzero : ∀ b, (s.line n).binding = some b → b.debounce = 0) :
    s.pinMoved n level = s.takeLevel n level := by
  rw [State.pinMoved, if_neg hdiffers.symm, if_neg (by simp [hstopped]), if_pos (Line.debounceTicks_eq_zero hzero)]

theorem State.pinMoved_starts {b : Binding} (hb : (s.line n).binding = some b) (hpos : 0 < b.debounce) :
    s.pinMoved n level =
      { s with lines := s.lines.set n { s.line n with debounceEnd := some (s.ticks + b.debounce * 8) } } := by
  have hticks := Line.debounceTicks_bound hb
  rw [State.pinMoved, if_neg hdiffers.symm, if_neg (by simp [hstopped]), if_neg (by omega), ← hticks]
  rfl

end

theorem debounceExpiry_stopped (hstopped : (s.line n).debounceEnd = none) : debounceExpiry n s = s := by
  simp only [debounceExpiry, hstopped]

section
variable {d : Nat} (hruns : (s.line n).debounceEnd = some d)
include hruns

theorem debounceExpiry_takes (hdiffers : s.pins.trig[n] ≠ (s.line n).taken) :
    debounceExpiry n s = (s.advance d).takeLevel n s.pins.trig[n] := by
  simp only [debounceExpiry, hruns, if_neg hdiffers]

theorem debounceExpiry_returned (hback : s.pins.trig[n] = (s.line n).taken) :
    debounceExpiry n s = { s.advance d with lines := s.lines.set n { s.line n with debounceEnd := none } } := by
  simp only [debounceExpiry, hruns, if_pos hback]; rfl

end

end

/-- Settles O46: the pin by reset and by what the line has taken, then the timer. -/
theorem trigPinIsDebounced : Obligations.TrigPinIsDebounced := by
  simp only [Obligations.TrigPinIsDebounced, exec_trigPinChange, exec_debounceExpiry, Host.Outcome.next.injEq]
  refine fun n s => ⟨fun level => ⟨s.trigPin n level, rfl, trigPinChange_still, fun hrun hmoved => ?pin⟩,
    debounceExpiry_stopped, fun d hruns => ⟨s.advance d, rfl, debounceExpiry_takes hruns, debounceExpiry_returned hruns⟩⟩
  rw [trigPinChange_moves hrun hmoved]
  exact ⟨fun hback => State.pinMoved_returns (s := s.trigPin n level) hback,
    fun hdiffers hruns => State.pinMoved_waits (s := s.trigPin n level) hdiffers hruns,
    fun hdiffers hstopped hzero => State.pinMoved_takes (s := s.trigPin n level) hdiffers hstopped hzero,
    fun b hdiffers hstopped hb hpos => State.pinMoved_starts (s := s.trigPin n level) hdiffers hstopped hb hpos⟩

/-! ### Reading a binding record (R137 check 1) -/

theorem bindMode?_eq_some_iff (r : BindingRecord) (m : BindMode) : bindMode? r.mode r.repeats = some m ↔ BindModeRead r m := by
  unfold bindMode?
  split
  · next htap => cases m <;> simp [BindModeRead, htap]; omega
  split
  · next hretrigger => cases m <;> simp [BindModeRead, hretrigger]; omega
  split
  · next hlevel => cases m <;> simp [BindModeRead, hlevel]
  · next htap hretrigger hlevel => cases m <;> simp [BindModeRead, htap, hretrigger, hlevel]

theorem binding?_eq_some_iff (r : BindingRecord) (b : Binding) : binding? r = some b ↔ BindingRead r b := by
  constructor
  · intro h
    unfold binding? at h
    split at h
    · next z i mode hz hi hm =>
      rw [Option.ite_none_right_eq_some] at h
      obtain ⟨⟨hdebounce, hlength⟩, hb⟩ := h
      cases hb
      exact ⟨index?_eq_some.mp hz, index?_eq_some.mp hi, ⟨rfl, hlength⟩, rfl, (bindMode?_eq_some_iff r _).mp hm,
        rfl, hdebounce⟩
    · cases h
  · rintro ⟨hzone, htemplate, ⟨hpayload, hlength⟩, htag, hmode, hdebounce, hmax⟩
    simp only [binding?, index?_eq_some.mpr hzone, index?_eq_some.mpr htemplate, (bindMode?_eq_some_iff r _).mpr hmode]
    rw [if_pos ⟨hmax, hlength⟩, ← hpayload, ← htag, ← hdebounce]

theorem binding?_eq_none_iff (r : BindingRecord) : binding? r = none ↔ ∀ b, ¬ BindingRead r b := by
  rw [Option.eq_none_iff_forall_ne_some]
  exact forall_congr' fun b => not_congr (binding?_eq_some_iff r b)

/-- R178: as many payload bits are read as the record states. -/
theorem BindingRead.payload_length {r : BindingRecord} {b : Binding} (h : BindingRead r b) :
    b.payload.length = r.payloadLength.toNat := by
  obtain ⟨hpayload, -⟩ := h.payload
  rw [hpayload, payloadBits, List.length_map, List.length_range]

/-! ### The steps of an accepted TRIGGER BIND (R137) -/

section
variable {s : State} {n : Fin 4}

theorem State.unhold_holding {b : Binding} (hb : (s.line n).binding = some b) (hholding : (s.line n).state = .holding) :
    s.unhold n = (answer (.jobRelease (byteOf b.zone) b.tag) s).state := by
  simp only [State.unhold, hb, if_pos hholding, State.lineRelease_eq]

theorem State.unhold_other (h : (s.line n).binding = none ∨ (s.line n).state ≠ .holding) : s.unhold n = s := by
  rcases h with hb | hstate
  · simp only [State.unhold, hb]
  · unfold State.unhold
    split
    · exact if_neg hstate
    · rfl

end

section
variable (s : State) (n : Fin 4)

theorem State.unhold_lines : (s.unhold n).lines = s.lines := by
  unfold State.unhold
  split
  · split
    · exact State.release_lines ..
    · rfl
  · rfl

theorem State.line_unhold (m : Fin 4) : (s.unhold n).line m = s.line m := by
  rw [State.line, State.unhold_lines]; rfl

variable (new : Option Binding)

/-- Steps 2 to 5 of R137: the line is written anew, and of the library the use counts alone move. -/
theorem State.bind_eq : s.bind n new = { s with
    lines := s.lines.set n
      { binding := new, taken := s.pins.trig[n], debounceEnd := none
        state := if new = none then .unbound else if s.pins.trig[n] = true then .waitLow else .armed }
    library := { s.library with slots := (s.bind n new).library.slots } } := by
  cases hb : (s.line n).binding <;> cases new <;> simp only [State.bind, hb] <;> rfl

theorem State.line_bind_taken : ((s.bind n new).line n).taken = s.pins.trig[n] := by
  simp [State.bind]

end

theorem count_toList {α : Type} [DecidableEq α] (o : Option α) (i : α) :
    o.toList.count i = if o = some i then 1 else 0 := by
  cases o <;> simp [List.count_singleton]

/-! ### TRIGGER BIND (R137) and TRIGGER QUERY (R139) -/

section
variable {s : State} {n : Fin 4}

theorem triggerBind_undefined {line : Byte} (h : 4 ≤ line.toNat) (record : Option BindingRecord) (s : State) :
    triggerBind line record s = refuse s .badField := by
  simp only [triggerBind, index?_eq_none h]

theorem triggerBind_unbound (hb : (s.line n).binding = none) : triggerBind (byteOf n) none s = refuse s .already := by
  simp [triggerBind, hb]

theorem triggerBind_removes (hb : (s.line n).binding ≠ none) : triggerBind (byteOf n) none s = s.rebind n none := by
  simp [triggerBind, hb]

theorem triggerBind_unread {r : BindingRecord} (h : ∀ b, ¬ BindingRead r b) :
    triggerBind (byteOf n) (some r) s = refuse s .badField := by
  simp only [triggerBind, index?_byteOf_4, (binding?_eq_none_iff r).mpr h]

section
variable {r : BindingRecord} {b : Binding} (hr : BindingRead r b)
include hr

theorem triggerBind_empty (ht : (s.slot b.template).template = none) :
    triggerBind (byteOf n) (some r) s = refuse s .noTemplate := by
  simp only [triggerBind, index?_byteOf_4, (binding?_eq_some_iff r b).mpr hr, ht]

variable {t : Template} (ht : (s.slot b.template).template = some t)
include ht

theorem triggerBind_length (hlength : r.payloadLength.toNat ≠ dataBits t.main) :
    triggerBind (byteOf n) (some r) s = refuse s .badPayload := by
  simp only [triggerBind, index?_byteOf_4, (binding?_eq_some_iff r b).mpr hr, ht, hr.payload_length, if_pos hlength]

theorem triggerBind_binds (hlength : r.payloadLength.toNat = dataBits t.main) :
    triggerBind (byteOf n) (some r) s = s.rebind n (some b) := by
  simp [triggerBind, (binding?_eq_some_iff r b).mpr hr, ht, hr.payload_length, hlength]

end

end

theorem triggerQuery_undefined {line : Byte} (h : 4 ≤ line.toNat) (s : State) :
    triggerQuery line s = refuse s .badField := by
  simp only [triggerQuery, index?_eq_none h]

theorem triggerQuery_line (s : State) (n : Fin 4) : triggerQuery (byteOf n) s = accept s (.triggerQuery
    { line := n, state := (s.line n).state, binding := (s.line n).binding, taken := (s.line n).taken
      pin := s.pins.trig[n], debouncing := (s.line n).debounceEnd.isSome }) := by
  simp only [triggerQuery, index?_byteOf_4]

/-- An accepted TRIGGER BIND: its reply gives the line as it is bound. -/
theorem exec_triggerBind_rebind {q : Byte} {s : State} (hs : s.ready) {n : Fin 4} {record : Option BindingRecord}
    {new : Option Binding} (hl : (Request.triggerBind (byteOf n) record).lengthOk = true)
    (h : triggerBind (byteOf n) record s = s.rebind n new) : exec (.triggerBind q (byteOf n) record) s =
      .next (((s.unhold n).bind n new).replying 0x38#8 q .ok (.triggerBind n (s.line n).binding.isSome
        (decide ((s.line n).state = .holding)) (((s.unhold n).bind n new).line n).state s.pins.trig[n])) := by
  have k := exec_answer (c := .triggerBind q (byteOf n) record) _ rfl hl hs h
  rw [State.rebind, State.line_bind_taken, (outside_unhold s n).pins] at k
  exact k

/-- Settles O45: what the checks refuse, then the steps of a request that they pass. -/
theorem triggerBindReplacesBinding : Obligations.TriggerBindReplacesBinding := by
  refine fun q s hs => ⟨fun line record hline hl => ⟨?badLine, ?badQuery⟩, fun n => ⟨?query, fun hb => ?already, fun r hl =>
    ⟨fun hunread => ?badField, fun b hr hempty => ?noTemplate, fun b t hr ht hlength => ?badPayload⟩, fun record new htaken =>
    ⟨s.unhold n, (s.unhold n).bind n new, fun b => State.unhold_holding, State.unhold_other, ?fields, fun i => ?slot, ?exec⟩⟩⟩
  case badLine => exact exec_answer (.triggerBind line record) rfl hl hs (triggerBind_undefined hline record s)
  case badQuery => exact exec_answer (.triggerQuery line) rfl rfl hs (triggerQuery_undefined hline s)
  case query => exact exec_answer (.triggerQuery (byteOf n)) rfl rfl hs (triggerQuery_line s n)
  case already => exact exec_answer (.triggerBind (byteOf n) none) rfl rfl hs (triggerBind_unbound hb)
  case badField => exact exec_answer (.triggerBind (byteOf n) (some r)) rfl hl hs (triggerBind_unread hunread)
  case noTemplate => exact exec_answer (.triggerBind (byteOf n) (some r)) rfl hl hs (triggerBind_empty hr hempty)
  case badPayload => exact exec_answer (.triggerBind (byteOf n) (some r)) rfl hl hs (triggerBind_length hr ht hlength)
  case fields =>
    rw [← (outside_unhold s n).pins]
    exact (s.unhold n).bind_eq n new
  case slot => rw [State.slot_bind, State.line_unhold, Line.named, count_toList, count_toList]
  case exec =>
    rcases htaken with ⟨rfl, rfl, hbound⟩ | ⟨r, b, t, rfl, hl, hr, ht, hlength, rfl⟩
    · exact exec_triggerBind_rebind hs rfl (triggerBind_removes hbound)
    · exact exec_triggerBind_rebind hs hl (triggerBind_binds hr ht hlength)

end Sys2Proof.Machine
end

section
/-!
The session of the Capture Unit (chapter 9): what it becomes at a mark start and a mark end, in the words of the statements;
and that each edge and timer keeps its list within the armed maximum.
-/
namespace Sys2Proof.Machine

/-! ### Appending, mark starts and mark ends, in the words of the statements (R147 to R149) -/

theorem storedDuration_eq (ticks : Nat) : storedDuration ticks = durationOf ticks := by
  unfold storedDuration durationOf Config.ticksPerUs
  split
  · omega
  split <;> omega

theorem Session.append_eq (c : Session) (duration : Nat) : c.append duration =
    { c with list := c.list ++ [duration], state := if c.filled then .done else c.state
             truncated := c.truncated || c.filled } := by
  unfold Session.append Session.filled
  by_cases h : c.maxEntries ≤ c.list.length + 1 <;> simp [h]

section
variable {c : Session}

theorem Session.markStart_armed (harmed : c.state = .armed) (since : Option Nat) (now : Nat) :
    c.markStart since now = c.afterStart now := by
  simp only [Session.markStart, harmed, Session.afterStart]

theorem Session.markStart_dated (hrecording : c.state = .recording) (start now : Nat) :
    c.markStart (some start) now = c.afterSpace start now := by
  simp only [Session.markStart, hrecording, Session.appendSpace, Session.append_eq, storedDuration_eq, Session.afterSpace]

theorem Session.markStart_undated (hrecording : c.state = .recording) (now : Nat) :
    c.markStart none now = { c with former := .mark now now none } := by
  simp only [Session.markStart, hrecording]

theorem Session.settle_eq (c : Session) (start lastRise : Nat) : c.settle start lastRise =
    { c with estimate := if c.estimate = .pending then settledEstimate c.edges (lastRise - start) else c.estimate } := by
  unfold Session.settle
  split <;> rfl

theorem Session.markEnd_eq (c : Session) (start lastRise fall : Nat) :
    c.markEnd start lastRise fall = c.afterMark start lastRise fall := by
  rw [Session.markEnd, Session.settle_eq, Session.appendMark, Session.append_eq, storedDuration_eq]
  rfl

end

/-! ### The session of the part (R150) -/

section
variable {c : Session}

theorem State.withSession_running (hrun : c.isRunning) (s : State) : s.withSession c = { s with capture := some c } := by
  simp only [State.withSession, if_pos hrun]

theorem State.withSession_resting (hrest : ¬ c.isRunning) (s : State) : s.withSession c = s.endSession c := by
  simp only [State.withSession, if_neg hrest]; rfl

theorem State.putSession_eq (s : State) (c : Session) : s.putSession c = s.withSession c := by
  cases hstate : c.state with
  | armed | recording =>
    rw [State.withSession_running (by simp [Session.isRunning, hstate])]
    simp only [State.putSession, hstate]; rfl
  | done | failed =>
    rw [State.withSession_resting (by simp [Session.isRunning, hstate])]
    simp only [State.putSession, hstate]

/-- A session whose former moves on runs as before. -/
theorem State.withSession_former (hrun : c.isRunning) (s : State) (former : Former) (edges : Nat) :
    s.withSession { c with former := former, edges := edges } =
      { s with capture := some { c with former := former, edges := edges } } :=
  State.withSession_running (c := { c with former := former, edges := edges }) hrun s

theorem State.withSession_self {s : State} (hc : s.capture = some c) (hrun : c.isRunning) : s.withSession c = s := by
  rw [State.withSession_running hrun, ← hc]

@[simp] theorem State.withSession_capture (s : State) (c : Session) : (s.withSession c).capture = some c := rfl

theorem State.runningSession_eq_none {s : State} (h : ∀ c, s.capture = some c → ¬ c.isRunning) :
    s.runningSession = none :=
  Option.eq_none_iff_forall_ne_some.mpr fun c hrunning => ((s.runningSession_eq_some c).mp hrunning).elim (h c)

end

/-! ### The law of a session (R141, R147, R148) -/

/-- What `CaptureLaw` asks of the session, if there is one. -/
structure Session.Lawful (c : Session) : Prop where
  within : c.list.length ≤ c.maxEntries
  maximum : 2 ≤ c.maxEntries ∧ c.maxEntries ≤ 512
  short : c.isRunning → c.list.length < c.maxEntries
  armed : c.state = .armed → c.list = [] ∧ c.former.inMark = false

theorem captureLaw_iff (s : State) : CaptureLaw s ↔ ∀ c, s.capture = some c → c.Lawful := by
  have hrunning (c : Session) : c.running = true ↔ c.isRunning := by simp [Session.running]
  refine forall₂_congr fun c _ => ⟨?_, fun h =>
    ⟨h.within, h.maximum.1, h.maximum.2, fun hr => h.short ((hrunning c).mp hr), h.armed⟩⟩
  rintro ⟨hwithin, hlow, hhigh, hshort, harmed⟩
  exact ⟨hwithin, ⟨hlow, hhigh⟩, fun hr => hshort ((hrunning c).mpr hr), harmed⟩

namespace Session.Lawful
variable {c d : Session}

theorem recording_of_mark (h : c.Lawful) (hrun : c.isRunning) {start lastRise : Nat} {fall : Option Nat}
    (hformer : c.former = .mark start lastRise fall) : c.state = .recording := by
  refine hrun.resolve_left fun harmed => ?_
  have hmark := (h.armed harmed).2
  rw [hformer] at hmark
  cases hmark

/-- The list as it was: a session in ARMED has still taken no mark. -/
theorem of_same (h : c.Lawful) (hmax : d.maxEntries = c.maxEntries) (hlist : d.list = c.list) (hstate : d.state = c.state)
    (hformer : c.state = .armed → d.former.inMark = false) : d.Lawful where
  within := by rw [hlist, hmax]; exact h.within
  maximum := by rw [hmax]; exact h.maximum
  short := by rw [Session.isRunning, hstate, hlist, hmax]; exact h.short
  armed := by rw [hstate, hlist]; exact fun harmed => ⟨(h.armed harmed).1, hformer harmed⟩

/-- One more entry in RECORDING: the session goes on only while the list is short of the maximum. -/
theorem of_append (h : c.Lawful) (hrecording : c.state = .recording) (hmax : d.maxEntries = c.maxEntries)
    (hlist : d.list.length = c.list.length + 1) (hstate : d.state = if c.filled then .done else c.state) : d.Lawful := by
  have hshort := h.short (.inr hrecording)
  rw [hrecording, Session.filled] at hstate
  refine ⟨by omega, by rw [hmax]; exact h.maximum, fun hrun => ?_, fun harmed => ?_⟩
  · have hnot : ¬ c.maxEntries ≤ c.list.length + 1 := fun hfull => by simp [Session.isRunning, hstate, hfull] at hrun
    omega
  · rw [hstate] at harmed; split at harmed <;> cases harmed

theorem afterStart (h : c.Lawful) (harmed : c.state = .armed) (now : Nat) : (c.afterStart now).Lawful where
  within := h.within
  maximum := h.maximum
  short := fun _ => h.short (.inl harmed)
  armed := nofun


theorem afterSpace (h : c.Lawful) (hrecording : c.state = .recording) (start now : Nat) : (c.afterSpace start now).Lawful :=
  h.of_append hrecording rfl (by simp [Session.afterSpace]) rfl

theorem afterMark (h : c.Lawful) (hrecording : c.state = .recording) (start lastRise fall : Nat) :
    (c.afterMark start lastRise fall).Lawful :=
  h.of_append hrecording rfl (by simp [Session.afterMark]) rfl

theorem markStart (h : c.Lawful) (hrun : c.isRunning) (since : Option Nat) (now : Nat) : (c.markStart since now).Lawful := by
  rcases hrun with harmed | hrecording
  · rw [Session.markStart_armed harmed]; exact h.afterStart harmed now
  cases since with
  | none =>
    rw [Session.markStart_undated hrecording]
    exact h.of_same rfl rfl rfl fun harmed => by rw [hrecording] at harmed; cases harmed
  | some start => rw [Session.markStart_dated hrecording]; exact h.afterSpace hrecording start now

/-- The end of a mark that the former was in. -/
theorem markEnd (h : c.Lawful) (hrun : c.isRunning) {start lastRise : Nat} {last : Option Nat}
    (hformer : c.former = .mark start lastRise last) (fall : Nat) : (c.markEnd start lastRise fall).Lawful := by
  rw [Session.markEnd_eq]
  exact h.afterMark (h.recording_of_mark hrun hformer) start lastRise fall

theorem capdEdge (h : c.Lawful) (hrun : c.isRunning) (level : Bool) (now : Nat) : (c.capdEdge level now).Lawful := by
  unfold Session.capdEdge
  split
  · exact h.of_same rfl rfl rfl fun _ => rfl
  · exact h.markStart hrun _ now
  · next hformer => exact h.markEnd hrun hformer now
  · exact h

theorem risingEdge (h : c.Lawful) (hrun : c.isRunning) (now : Nat) : (c.risingEdge now).Lawful := by
  unfold Session.risingEdge
  split
  · exact h
  · split
    · exact h.markStart hrun none now
    · exact h.of_same rfl rfl rfl fun _ => rfl
  · exact h.markStart hrun _ now
  · exact h
  next hformer =>
    split
    · exact h.of_same rfl rfl rfl fun harmed => by rw [h.recording_of_mark hrun hformer] at harmed; cases harmed
    · have hended := h.markEnd hrun hformer
      dsimp only
      split
      · next hgoes => exact (hended _).markStart (by simpa [Session.running] using hgoes) _ now
      · exact hended _

theorem fallingEdge (h : c.Lawful) (hrun : c.isRunning) (now : Nat) : (c.fallingEdge now).Lawful := by
  unfold Session.fallingEdge
  split
  · exact h.of_same rfl rfl rfl fun _ => rfl
  next hformer =>
    split
    · exact h.markEnd hrun hformer now
    · exact h.of_same rfl rfl rfl fun harmed => by rw [h.recording_of_mark hrun hformer] at harmed; cases harmed
  · exact h

/-- A session in DONE or FAILED, with at most one entry more than it had while it ran. -/
theorem of_rest (h : c.Lawful) (hmax : d.maxEntries = c.maxEntries) (hlist : d.list.length ≤ c.maxEntries)
    (hrest : ¬ d.isRunning) : d.Lawful where
  within := by rw [hmax]; exact hlist
  maximum := by rw [hmax]; exact h.maximum
  short := fun hrun => absurd hrun hrest
  armed := fun harmed => absurd (.inl harmed) hrest

theorem stick (h : c.Lawful) (hrecording : c.state = .recording) (start lastRise : Nat) : (c.stick start lastRise).Lawful := by
  have hshort := h.short (.inr hrecording)
  refine h.of_rest ?_ ?_ (by simp [Session.isRunning, Session.stick])
  · simp [Session.stick, Session.settle_eq]
  · simpa [Session.stick, Session.settle_eq] using hshort

end Session.Lawful

end Sys2Proof.Machine
end

section
/-!
Every step keeps the law of the capture list (R141, R148): what leaves the session alone, what the unit's own commands make
of it, then the port, the resets and the step.
-/
namespace Sys2Proof.Machine

/-! ### Requests that leave the session alone -/

@[simp] theorem accept_state (s : State) (fields : ReplyFields) : (accept s fields).state = s := rfl
@[simp] theorem refuse_state (s : State) (status : Status) : (refuse s status).state = s := rfl
@[simp] theorem refuseWith_state (s : State) (status : Status) (fields : ReplyFields) :
    (refuseWith s status fields).state = s := rfl

@[simp] theorem State.release_capture (s : State) (z : Fin 8) (tag : Half) : (s.release z tag).state.capture = s.capture := by
  unfold State.release State.releaseAgain State.releaseLate
  repeat' split
  all_goals simp

@[simp] theorem State.unhold_capture (s : State) (n : Fin 4) : (s.unhold n).capture = s.capture := by
  unfold State.unhold State.lineRelease
  repeat' split
  all_goals simp

@[simp] theorem State.bind_capture (s : State) (n : Fin 4) (new : Option Binding) : (s.bind n new).capture = s.capture := by
  unfold State.bind
  split <;> split <;> simp

@[simp] theorem State.deliver_capture (s : State) (n : Source) : (s.deliver n).capture = s.capture := by
  cases n with
  | zone z => exact s.takeHead_capture z
  | engine | fault | link | capture | trigger => rfl

@[simp] theorem State.fetch_capture (s : State) (n : Source) (claimed : Bool) :
    (s.fetch n claimed).state.capture = s.capture := by
  unfold State.fetch
  split <;> simp

@[simp] theorem State.flushActive_capture (s : State) (z : Fin 8) (action : Option CancelMode) :
    (s.flushActive z action).1.capture = s.capture := by
  unfold State.flushActive
  repeat' split
  all_goals simp

/-- The requests of the Capture Unit that change its session. -/
def rearmsCapture : Request → Bool
  | .captureArm .. => true
  | .captureStop => true
  | _ => false

/-- Every request but CAPTURE ARM and CAPTURE STOP leaves the session as it is. -/
theorem answer_capture {r : Request} (h : rearmsCapture r = false) (s : State) : (answer r s).state.capture = s.capture := by
  cases r with
  | captureArm | captureStop => cases h
  | libraryQuery | carrierQuery | timeQuery | captureQuery | noticePeek | identify | engineReset => rfl
  | templateBegin | templateAppend | templateCommit | templateAbandon | templateDelete | templateQuery =>
    simp only [answer, templateBegin, templateAppend, templateCommit, templateAbandon, templateDelete, templateQuery]
    repeat' split
    all_goals rfl
  | zoneSetup | zoneQuery | zoneReset | faultClear | completionTake =>
    simp only [answer, zoneSetup, zoneQuery, zoneReset, faultClear, completionTake]
    repeat' split
    all_goals simp
  | jobSubmit | jobRelease | jobCancel | zoneFlush =>
    simp only [answer, jobSubmit, jobRelease, jobCancel, State.cancelActive, zoneFlush]
    repeat' split
    all_goals simp
  | slotPlan | slotQuery | captureRead =>
    simp only [answer, slotPlan, slotQuery, captureRead]
    repeat' split
    all_goals rfl
  | triggerBind | triggerQuery =>
    simp only [answer, triggerBind, State.rebind, triggerQuery]
    repeat' split
    all_goals simp
  | noticeFetch | noticeAck | noticeSetup =>
    simp only [answer, noticeFetch, noticeAck, State.acknowledge, noticeSetup]
    repeat' split
    all_goals simp

/-! ### Events that leave the session alone -/

@[simp] theorem slotBoundary_capture (s : State) : (slotBoundary s).capture = s.capture := by
  unfold slotBoundary State.nextSlot
  split <;> simp

@[simp] theorem phaseEnd_capture (z : Fin 8) (s : State) : (phaseEnd z s).capture = s.capture := by
  unfold phaseEnd
  repeat' split
  all_goals simp

@[simp] theorem frameTimerExpiry_capture (z : Fin 8) (s : State) : (frameTimerExpiry z s).capture = s.capture := by
  unfold frameTimerExpiry
  repeat' split
  all_goals simp

@[simp] theorem quietTimeExpiry_capture (z : Fin 8) (s : State) : (quietTimeExpiry z s).capture = s.capture := by
  unfold quietTimeExpiry
  split <;> simp

@[simp] theorem driverReport_capture (z : Fin 8) (report : Condition) (s : State) :
    (driverReport z report s).capture = s.capture := by
  unfold driverReport
  dsimp only
  split <;> simp

@[simp] theorem State.falling_capture (s : State) (b : Binding) (n : Fin 4) : (s.falling b n).capture = s.capture := by
  unfold State.falling State.lineRelease
  split <;> simp

@[simp] theorem State.takeLevel_capture (s : State) (n : Fin 4) (level : Bool) : (s.takeLevel n level).capture = s.capture := by
  unfold State.takeLevel
  dsimp only
  repeat' split
  all_goals simp

@[simp] theorem trigPinChange_capture (n : Fin 4) (level : Bool) (s : State) :
    (trigPinChange n level s).capture = s.capture := by
  unfold trigPinChange State.pinMoved
  dsimp only
  repeat' split
  all_goals simp

@[simp] theorem debounceExpiry_capture (n : Fin 4) (s : State) : (debounceExpiry n s).capture = s.capture := by
  unfold debounceExpiry
  repeat' split
  all_goals simp

@[simp] theorem highHalfStart_capture (g : Fin 4) (s : State) : (highHalfStart g s).capture = s.capture := by
  unfold highHalfStart State.startHigh
  repeat' split
  all_goals simp

@[simp] theorem highHalfEnd_capture (owner : HalfOwner) (s : State) : (highHalfEnd owner s).capture = s.capture := by
  unfold highHalfEnd State.startLow
  repeat' split
  all_goals simp

/-! ### The session that CAPTURE ARM makes, and the commands of the unit -/

theorem CaptureLaw.of_capture {s t : State} (h : CaptureLaw s) (hsame : t.capture = s.capture) : CaptureLaw t := by
  rwa [CaptureLaw, hsame]

theorem CaptureLaw.of_none {s : State} (h : s.capture = none) : CaptureLaw s := by simp [CaptureLaw, h]

theorem CaptureLaw.of_session {s : State} {c : Session} (hc : s.capture = some c) (h : c.Lawful) : CaptureLaw s :=
  (captureLaw_iff s).mpr fun _ hd => Option.some_injective _ (hc.symm.trans hd) ▸ h

theorem CaptureLaw.session {s : State} {c : Session} (h : CaptureLaw s) (hc : s.capture = some c) : c.Lawful :=
  (captureLaw_iff s).mp h c hc

theorem CaptureLaw.putSession (s : State) {c : Session} (h : c.Lawful) : CaptureLaw (s.putSession c) := by
  rw [State.putSession_eq]
  exact .of_session (s.withSession_capture c) h

theorem State.firstFormer_inMark (s : State) (source : CaptureSource) : (s.firstFormer source).inMark = false := by
  unfold State.firstFormer
  repeat' split
  all_goals rfl

/-- The new session's list is empty and its former is in no mark (R143). -/
theorem Session.Lawful.newSession (s : State) (source : CaptureSource) {startTimeout endGap maxEntries : Nat}
    (h : limitsOk startTimeout endGap maxEntries = true) : (s.newSession source startTimeout endGap maxEntries).Lawful := by
  simp only [limitsOk, Bool.and_eq_true, decide_eq_true_eq] at h
  obtain ⟨⟨-, hlow⟩, hhigh⟩ := h
  exact ⟨Nat.zero_le _, ⟨hlow, hhigh⟩, fun _ => Nat.zero_lt_of_lt hlow, fun _ => ⟨rfl, s.firstFormer_inMark source⟩⟩

section
variable {s : State} (h : CaptureLaw s)
include h

theorem CaptureLaw.captureArm (source zone : Byte) (startTimeout endGap maxEntries : Half) :
    CaptureLaw (captureArm source zone startTimeout endGap maxEntries s).state := by
  unfold Machine.captureArm
  split
  · exact h
  split
  · exact h
  split
  · exact h
  · next hlimits _ => exact .of_session rfl (.newSession s _ (by simpa using hlimits))

theorem CaptureLaw.running {c : Session} (hrun : s.runningSession = some c) : c.Lawful ∧ c.isRunning := by
  obtain ⟨hc, hr⟩ := (s.runningSession_eq_some c).mp hrun
  exact ⟨h.session hc, hr⟩

theorem CaptureLaw.capdEdge (level : Bool) : CaptureLaw (capdEdge level s) := by
  have hpin : CaptureLaw { s with pins := { s.pins with capd := level } } := h.of_capture rfl
  unfold Machine.capdEdge
  dsimp only
  split
  · exact hpin
  split
  · exact hpin
  next hrun =>
    obtain ⟨hlawful, hr⟩ := h.running hrun
    split
    · exact .putSession _ (hlawful.capdEdge hr level _)
    · exact hpin

theorem CaptureLaw.moveInput (input : EdgeInput) (level : Bool) : CaptureLaw (s.moveInput input level) := by
  cases input with
  | capc => exact h.of_capture rfl
  | loopback => exact h

theorem CaptureLaw.captureRisingEdge (input : EdgeInput) : CaptureLaw (captureRisingEdge input s) := by
  unfold Machine.captureRisingEdge
  dsimp only
  split
  · exact h.moveInput input true
  next hrun =>
    obtain ⟨hlawful, hr⟩ := h.running hrun
    split
    · exact .putSession _ (hlawful.risingEdge hr _)
    · exact h.moveInput input true

theorem CaptureLaw.captureFallingEdge (input : EdgeInput) : CaptureLaw (captureFallingEdge input s) := by
  unfold Machine.captureFallingEdge
  dsimp only
  split
  · exact h.moveInput input false
  next hrun =>
    obtain ⟨hlawful, hr⟩ := h.running hrun
    split
    · exact .putSession _ (hlawful.fallingEdge hr _)
    · exact h.moveInput input false

theorem CaptureLaw.markEndTimeout : CaptureLaw (markEndTimeout s) := by
  unfold Machine.markEndTimeout
  split
  · exact h
  next hrun =>
    obtain ⟨hlawful, hr⟩ := h.running hrun
    split
    · next hformer =>
      split
      · exact h
      · exact .putSession _ (hlawful.markEnd hr hformer _)
    · exact h

theorem CaptureLaw.initialSpaceRecognised : CaptureLaw (initialSpaceRecognised s) := by
  unfold Machine.initialSpaceRecognised
  split
  · exact h
  next hrun =>
    split
    · exact .of_session rfl ((h.running hrun).1.of_same rfl rfl rfl fun _ => rfl)
    · exact h

theorem CaptureLaw.startTimeoutExpiry : CaptureLaw (startTimeoutExpiry s) := by
  unfold Machine.startTimeoutExpiry
  split
  · exact h
  next hc =>
    split
    · exact .of_session rfl ((h.session hc).of_rest rfl (h.session hc).within nofun)
    · exact h

theorem CaptureLaw.endGapExpiry : CaptureLaw (endGapExpiry s) := by
  unfold Machine.endGapExpiry
  split
  · exact h
  next hc =>
    split
    · exact .of_session rfl ((h.session hc).of_rest rfl (h.session hc).within nofun)
    · exact h

theorem CaptureLaw.stuckMark : CaptureLaw (stuckMark s) := by
  unfold Machine.stuckMark
  split
  · exact h
  next hc =>
    split
    · next hrecording _ => exact .of_session rfl ((h.session hc).stick hrecording _ _)
    · exact h

/-! ### The port -/

theorem CaptureLaw.answer (r : Request) : CaptureLaw (answer r s).state := by
  cases hr : rearmsCapture r with
  | false => exact h.of_capture (answer_capture hr s)
  | true =>
    cases r with
    | captureArm source zone startTimeout endGap maxEntries => exact h.captureArm source zone startTimeout endGap maxEntries
    | captureStop => exact .of_none rfl
    | _ => cases hr

theorem CaptureLaw.setPort (p : Port) : CaptureLaw (s.setPort p) := h.of_capture rfl

theorem CaptureLaw.setBuffer (buffer : List (List Byte)) : CaptureLaw (s.setBuffer buffer) := h.of_capture rfl

theorem CaptureLaw.handle (seq : Byte) (r : Request) : CaptureLaw (s.handle seq r) := by
  unfold State.handle
  split
  · exact (h.answer r).of_capture rfl
  · exact h.of_capture rfl

theorem CaptureLaw.handleBody (body : List Byte) : CaptureLaw (s.handleBody body) := by
  unfold State.handleBody
  split
  · split
    · exact h.handle _ _
    · exact h.of_capture rfl
    · exact h.of_capture rfl
  · exact h

theorem CaptureLaw.takeRequest : CaptureLaw s.takeRequest := by
  unfold State.takeRequest
  split
  · exact h
  split
  · exact h
  · exact (h.setBuffer _).handleBody _

theorem CaptureLaw.offer (body : List Byte) : CaptureLaw (s.offer body) := by
  unfold State.offer
  split
  · exact (h.setBuffer _).takeRequest
  · exact h.of_capture rfl

theorem CaptureLaw.request (seq : Byte) (r : Request) : CaptureLaw (s.request seq r) := by
  unfold State.request
  split
  · exact h
  split
  · exact h.handle seq r
  · exact h.offer _

theorem CaptureLaw.assemble (b : Byte) : CaptureLaw (s.assemble b) := by
  unfold State.assemble State.lengthByte State.lastByte
  split
  · split <;> exact h.of_capture rfl
  · split <;> exact h.of_capture rfl
  · exact h.of_capture rfl
  · exact h.of_capture rfl
  split
  · exact (h.setPort _).offer _
  · exact h.of_capture rfl

theorem CaptureLaw.receiveByte (data : Byte) (edge : CharEdge) : CaptureLaw (receiveByte data edge s) := by
  have hidle : CaptureLaw s.rxdIdle := h.of_capture rfl
  unfold Machine.receiveByte
  split
  · exact h.of_capture rfl
  split
  · exact hidle
  · exact (hidle.assemble data).of_capture rfl

theorem CaptureLaw.gapTimerExpiry : CaptureLaw (gapTimerExpiry s) := by
  unfold Machine.gapTimerExpiry
  repeat' split
  all_goals exact h.of_capture rfl

theorem CaptureLaw.replySent : CaptureLaw (replySent s) := by
  unfold Machine.replySent
  split
  · exact h
  split
  · exact .of_none rfl
  · exact CaptureLaw.takeRequest (h.of_capture rfl)

/-! ### Resets: the unit comes to IDLE -/

theorem CaptureLaw.release? : CaptureLaw s.release? := by
  unfold State.release?
  split
  · exact h
  · exact .of_none rfl

theorem CaptureLaw.supplyRise : CaptureLaw (supplyRise s) := by
  unfold Machine.supplyRise
  split
  · exact .of_none rfl
  · exact h

theorem CaptureLaw.supplyStable : CaptureLaw (supplyStable s) := by
  have hstable : CaptureLaw { s with supply := .stable } := h.of_capture rfl
  unfold Machine.supplyStable
  split
  · dsimp only
    split
    · exact hstable.release?
    · exact hstable
  · exact h

theorem CaptureLaw.supplyFailure : CaptureLaw (supplyFailure s) := by
  unfold Machine.supplyFailure
  split
  · exact h
  · exact .of_none rfl

theorem CaptureLaw.resetNLow : CaptureLaw (resetNLow s) := by
  unfold Machine.resetNLow
  dsimp only
  split
  · exact .of_none rfl
  · exact h.of_capture rfl

theorem CaptureLaw.resetNHigh : CaptureLaw (resetNHigh s) := by
  have hpin : CaptureLaw { s with pins := { s.pins with resetN := true } } := h.of_capture rfl
  unfold Machine.resetNHigh
  dsimp only
  split
  · exact hpin.release?
  · exact hpin

theorem CaptureLaw.requestResetExpiry : CaptureLaw (requestResetExpiry s) := by
  unfold Machine.requestResetExpiry
  split
  · exact CaptureLaw.release? (h.of_capture rfl)
  · exact h

/-! ### Every command and every step -/

theorem CaptureLaw.exec (c : Instr) : ∃ t, exec c s = .next t ∧ CaptureLaw t := by
  cases hc : requestOf c with
  | some qr => exact ⟨_, exec_request hc s, h.request _ _⟩
  | none =>
    cases c with
    | receiveByte data edge => exact ⟨_, rfl, h.receiveByte data edge⟩
    | gapTimerExpiry => exact ⟨_, rfl, h.gapTimerExpiry⟩
    | replySent => exact ⟨_, rfl, h.replySent⟩
    | supplyRise => exact ⟨_, rfl, h.supplyRise⟩
    | supplyStable => exact ⟨_, rfl, h.supplyStable⟩
    | supplyFailure => exact ⟨_, rfl, h.supplyFailure⟩
    | resetNLow => exact ⟨_, rfl, h.resetNLow⟩
    | resetNHigh => exact ⟨_, rfl, h.resetNHigh⟩
    | requestResetExpiry => exact ⟨_, rfl, h.requestResetExpiry⟩
    | slotBoundary => exact ⟨_, rfl, h.of_capture (slotBoundary_capture s)⟩
    | phaseEnd z => exact ⟨_, rfl, h.of_capture (phaseEnd_capture z s)⟩
    | frameTimerExpiry z => exact ⟨_, rfl, h.of_capture (frameTimerExpiry_capture z s)⟩
    | quietTimeExpiry z => exact ⟨_, rfl, h.of_capture (quietTimeExpiry_capture z s)⟩
    | driverFault z report => exact ⟨_, rfl, h.of_capture (driverReport_capture z report s)⟩
    | trigPinChange line level => exact ⟨_, rfl, h.of_capture (trigPinChange_capture line level s)⟩
    | debounceExpiry line => exact ⟨_, rfl, h.of_capture (debounceExpiry_capture line s)⟩
    | highHalfStart g => exact ⟨_, rfl, h.of_capture (highHalfStart_capture g s)⟩
    | highHalfEnd owner => exact ⟨_, rfl, h.of_capture (highHalfEnd_capture owner s)⟩
    | capdEdge level => exact ⟨_, rfl, h.capdEdge level⟩
    | captureRisingEdge input => exact ⟨_, rfl, h.captureRisingEdge input⟩
    | captureFallingEdge input => exact ⟨_, rfl, h.captureFallingEdge input⟩
    | markEndTimeout => exact ⟨_, rfl, h.markEndTimeout⟩
    | initialSpaceRecognised => exact ⟨_, rfl, h.initialSpaceRecognised⟩
    | startTimeoutExpiry => exact ⟨_, rfl, h.startTimeoutExpiry⟩
    | endGapExpiry => exact ⟨_, rfl, h.endGapExpiry⟩
    | stuckMark => exact ⟨_, rfl, h.stuckMark⟩
    | _ => cases hc

theorem CaptureLaw.idle : CaptureLaw s.idle := by
  unfold State.idle State.choose
  repeat' split
  all_goals exact h.of_capture rfl

end

/-- Settles O60: the law is one of the session, and every command keeps, arms, advances or removes the session. -/
theorem stepKeepsCaptureWithinMaximum : Obligations.StepKeepsCaptureWithinMaximum := by
  intro s t h hstep
  unfold step at hstep
  split at hstep
  · cases hstep; exact h.idle
  next c rest _ =>
    obtain ⟨u, hu, hlaw⟩ := CaptureLaw.exec (s := { s with pending := rest }) (h.of_capture rfl) c
    rw [hu] at hstep
    cases hstep
    exact hlaw

end Sys2Proof.Machine
end

section
/-!
What the requests, the edges and the timers of the Capture Unit do (R143 to R153), state by state of the session and of its
envelope former.
-/
namespace Sys2Proof.Machine

/-! ### CAPTURE ARM (R143) -/

theorem captureSource?_eq_some_iff (b zone : Byte) (source : CaptureSource) :
    captureSource? b zone = some source ↔ SourceRead b zone source := by
  unfold captureSource?
  split
  · next hb => subst hb; cases source <;> simp [SourceRead]
  split
  · next hb => subst hb; cases source <;> simp [SourceRead]
  split
  · next hb => subst hb; cases source <;> simp [SourceRead, index?_eq_some]
  · next hcapd hcapc hloopback => cases source <;> simp [SourceRead, hcapd, hcapc, hloopback]

theorem captureSource?_eq_none {b zone : Byte} (h : ∀ source, ¬ SourceRead b zone source) : captureSource? b zone = none :=
  Option.eq_none_iff_forall_ne_some.mpr fun source hs => h source ((captureSource?_eq_some_iff b zone source).mp hs)

theorem limitsOk_iff (startTimeout endGap maxEntries : Half) :
    limitsOk startTimeout.toNat endGap.toNat maxEntries.toNat = true ↔ LimitsDefined startTimeout endGap maxEntries := by
  simp [limitsOk, LimitsDefined, and_assoc]

section
variable {src zone : Byte} {startTimeout endGap maxEntries : Half} {s : State}

theorem captureArm_undefined
    (h : (∀ source, ¬ SourceRead src zone source) ∨ ¬ LimitsDefined startTimeout endGap maxEntries) :
    captureArm src zone startTimeout endGap maxEntries s = refuse s .badField := by
  unfold captureArm
  rcases h with hsource | hlimits
  · rw [captureSource?_eq_none hsource]
  · rw [← limitsOk_iff, Bool.not_eq_true] at hlimits
    simp only [hlimits, Bool.not_false, if_true]
    split <;> rfl

variable {source : CaptureSource} (hsource : SourceRead src zone source) (hlimits : LimitsDefined startTimeout endGap maxEntries)
include hsource hlimits

theorem captureArm_busy {c : Session} (hc : s.capture = some c) (hrun : c.isRunning) :
    captureArm src zone startTimeout endGap maxEntries s = refuse s .busy := by
  have hrunning : s.runningSession = some c := (s.runningSession_eq_some c).mpr ⟨hc, hrun⟩
  simp only [captureArm, (captureSource?_eq_some_iff ..).mpr hsource, (limitsOk_iff ..).mpr hlimits, hrunning]
  rfl

theorem captureArm_arms (hrest : ∀ c, s.capture = some c → ¬ c.isRunning) :
    captureArm src zone startTimeout endGap maxEntries s =
      accept (s.setSession (some (s.newSession source startTimeout.toNat endGap.toNat maxEntries.toNat)))
        (.captureChange (s.capture.map Session.state) s.captureEntries (some .armed)) := by
  simp only [captureArm, (captureSource?_eq_some_iff ..).mpr hsource, (limitsOk_iff ..).mpr hlimits,
    State.runningSession_eq_none hrest]
  rfl

end

/-! ### CAPTURE QUERY and CAPTURE READ (R152, R153) -/

section
variable {s : State} {offset : Half} {count : Byte}

theorem captureRead_count (h : count.toNat < 1 ∨ 24 < count.toNat) : captureRead offset count s = refuse s .badField :=
  if_pos h

variable (hlow : 1 ≤ count.toNat) (hhigh : count.toNat ≤ 24)
include hlow hhigh

theorem captureRead_unreadable (h : ∀ c, s.capture = some c → c.state ≠ .done ∧ c.state ≠ .failed .stuck) :
    captureRead offset count s = refuse s .badState := by
  have hnone : s.capture.filter Session.readable = none := by
    rw [Option.filter_eq_none_iff]
    intro c hc
    simpa [Session.readable] using h c hc
  rw [captureRead, if_neg (by omega), hnone]

theorem captureRead_readable {c : Session} (hc : s.capture = some c) (h : c.state = .done ∨ c.state = .failed .stuck) :
    captureRead offset count s = if offset.toNat < c.list.length then
        accept s (.captureRead offset.toNat ((c.list.drop offset.toNat).take count.toNat))
      else refuse s .badField := by
  have hreadable : s.capture.filter Session.readable = some c := by
    rw [hc, Option.filter_some_pos]
    simpa [Session.readable] using h
  rw [captureRead, if_neg (by omega), hreadable]

end

theorem captureReport_eq (capture : Option Session) : captureReport capture =
    { state := capture.map Session.state
      limits := capture.map fun c => (c.source, c.startTimeout, c.endGap, c.maxEntries)
      entries := capture.elim 0 fun c => c.list.length
      saturated := capture.any Session.saturated, truncated := capture.any Session.truncated
      startTime := capture.bind Session.startTime
      estimate := capture.map fun c => (c.estimate, c.estimate.band) } := by
  cases capture <;> rfl

/-- Settles O49: CAPTURE ARM by its checks, then what the unit's other requests report. -/
theorem captureRequests : Obligations.CaptureRequests := by
  refine fun q s hs => ⟨fun src zone t g m h => ?undefined, fun src zone t g m source hsource hlimits =>
    ⟨fun c hc hrun => ?busy, fun hrest => ⟨s.newSession source t.toNat g.toNat m.toNat, ?arms,
      rfl, rfl, rfl, rfl, rfl, rfl, rfl, rfl, rfl, rfl, rfl, ?former⟩⟩, ?stop, ⟨captureReport s.capture, ?query, ?report⟩,
    fun offset count h => ?badCount, fun offset count hlow hhigh => ⟨fun h => ?unreadable,
      fun c hc h => ⟨fun hpast => ?past, fun hin => ?read⟩⟩⟩
  case undefined => exact exec_answer (.captureArm src zone t g m) rfl rfl hs (captureArm_undefined h)
  case busy => exact exec_answer (.captureArm src zone t g m) rfl rfl hs (captureArm_busy hsource hlimits hc hrun)
  case arms => exact exec_answer (.captureArm src zone t g m) rfl rfl hs (captureArm_arms hsource hlimits hrest)
  case former => cases source <;> rfl
  case stop => exact exec_answer .captureStop rfl rfl hs rfl
  case query => exact exec_answer .captureQuery rfl rfl hs rfl
  case report =>
    rw [captureReport_eq]
    exact ⟨rfl, rfl, rfl, rfl, rfl, rfl, rfl⟩
  case badCount => exact exec_answer (.captureRead offset count) rfl rfl hs (captureRead_count h)
  case unreadable => exact exec_answer (.captureRead offset count) rfl rfl hs (captureRead_unreadable hlow hhigh h)
  case past =>
    exact exec_answer (.captureRead offset count) rfl rfl hs
      ((captureRead_readable hlow hhigh hc h).trans (if_neg (Nat.not_lt.mpr hpast)))
  case read =>
    exact exec_answer (.captureRead offset count) rfl rfl hs
      ((captureRead_readable hlow hhigh hc h).trans (if_pos hin))

/-! ### The timers that end a session (R147 to R150) -/

section
variable {s : State} {c : Session}

theorem startTimeoutExpiry_armed (hc : s.capture = some c) (harmed : c.state = .armed) :
    startTimeoutExpiry s = (s.advance c.timeoutAt).withSession { c with state := .failed .noSignal } := by
  simp only [startTimeoutExpiry, hc, if_pos harmed]
  exact (State.withSession_resting (by simp [Session.isRunning]) _).symm

theorem startTimeoutExpiry_other (h : ∀ c, s.capture = some c → c.state ≠ .armed) : startTimeoutExpiry s = s := by
  unfold startTimeoutExpiry
  split
  · rfl
  · next c hc => exact if_neg (h c hc)

theorem endGapExpiry_space {t : Nat} (hc : s.capture = some c) (hrecording : c.state = .recording)
    (hformer : c.former = .space (some t)) :
    endGapExpiry s = (s.advance (t + c.endGap * 8)).withSession { c with state := .done } := by
  simp only [endGapExpiry, hc, hrecording, hformer]
  exact (State.withSession_resting (by simp [Session.isRunning]) _).symm

theorem endGapExpiry_other (h : ∀ c t, s.capture = some c → c.state ≠ .recording ∨ c.former ≠ .space (some t)) :
    endGapExpiry s = s := by
  unfold endGapExpiry
  split
  · rfl
  next c hc =>
    split
    · next t hrecording hformer => exact absurd (h c t hc) (by simp [hrecording, hformer])
    · rfl

theorem Session.stick_eq (c : Session) (start lastRise : Nat) : c.stick start lastRise =
    { c with list := c.list ++ [65535], saturated := true, state := .failed .stuck
             estimate := if c.estimate = .pending then settledEstimate c.edges (lastRise - start) else c.estimate } := by
  rw [Session.stick, Session.settle_eq]

theorem stuckMark_mark {start lastRise : Nat} {fall : Option Nat} (hc : s.capture = some c)
    (hrecording : c.state = .recording) (hformer : c.former = .mark start lastRise fall) :
    stuckMark s = (s.advance (start + 250000 * 8)).withSession { c with
      list := c.list ++ [65535], saturated := true, state := .failed .stuck
      estimate := if c.estimate = .pending then settledEstimate c.edges (lastRise - start) else c.estimate } := by
  simp only [stuckMark, hc, hrecording, hformer, Session.stick_eq]
  exact (State.withSession_resting (by simp [Session.isRunning]) _).symm

theorem stuckMark_other
    (h : ∀ c start last fall, s.capture = some c → c.state ≠ .recording ∨ c.former ≠ .mark start last fall) :
    stuckMark s = s := by
  unfold stuckMark
  split
  · rfl
  next c hc =>
    split
    · next start last fall hrecording hformer =>
      exact absurd (h c start last fall hc) (by simp [hrecording, hformer])
    · rfl

end

/-- Settles O52: each timer by the session's state and its former. -/
theorem captureTimersEndSession : Obligations.CaptureTimersEndSession := by
  exact fun s => ⟨fun c hc harmed => congrArg _ (startTimeoutExpiry_armed hc harmed),
    fun h => congrArg _ (startTimeoutExpiry_other h),
    fun c t hc hrecording hformer => congrArg _ (endGapExpiry_space hc hrecording hformer),
    fun h => congrArg _ (endGapExpiry_other h), fun c start last fall hc hrecording hformer =>
      ⟨_, rfl, congrArg Host.Outcome.next (stuckMark_mark hc hrecording hformer)⟩,
    fun h => congrArg _ (stuckMark_other h)⟩

/-! ### CAPD_EDGE (R144) -/

/-- The pin CAPD has this level. -/
def State.capdPin (s : State) (level : Bool) : State := { s with pins := { s.pins with capd := level } }

section
variable {s : State} {c : Session} {level : Bool}

theorem capdEdge_still
    (h : s.pins.capd = level ∨ ∀ c, s.capture = some c → ¬ (c.isRunning ∧ c.source = .capd)) :
    capdEdge level s = s.capdPin level := by
  unfold capdEdge
  dsimp only
  split
  · rfl
  next hmoved =>
    split
    · rfl
    next c hrunning =>
      obtain ⟨hc, hrun⟩ := (s.runningSession_eq_some c).mp hrunning
      exact if_neg fun hsource => h.resolve_left hmoved c hc ⟨hrun, hsource⟩

theorem capdEdge_moves (hmoved : s.pins.capd ≠ level) (hc : s.capture = some c) (hrun : c.isRunning)
    (hsource : c.source = .capd) :
    capdEdge level s = (s.capdPin level).withSession (c.capdEdge level s.ticks) := by
  have hrunning : s.runningSession = some c := (s.runningSession_eq_some c).mpr ⟨hc, hrun⟩
  rw [← State.putSession_eq]
  simp only [capdEdge, if_neg hmoved, hrunning, if_pos hsource]
  rfl

end

/-- Settles O50: the pin alone, or the session by its former and the level. -/
theorem capdEdgeFormsMarks : Obligations.CapdEdgeFormsMarks := by
  refine fun level s => ⟨s.capdPin level, rfl, fun h => congrArg _ (capdEdge_still h), fun c hmoved hc hrun hsource => ?_⟩
  have hexec : exec (.capdEdge level) s = .next ((s.capdPin level).withSession (c.capdEdge level s.ticks)) :=
    congrArg _ (capdEdge_moves hmoved hc hrun hsource)
  have hkept : (s.capdPin level).withSession c = s.capdPin level := State.withSession_self hc hrun
  rw [hexec]
  simp only [Host.Outcome.next.injEq]
  refine ⟨?rises, ?stays, ?starts, ?spaceEnds, ?space, ?markEnds, ?mark⟩
  case rises =>
    rintro t hformer rfl
    simp only [Session.capdEdge, hformer]
    exact State.withSession_former hrun ..
  case stays => rintro t hformer rfl; simpa only [Session.capdEdge, hformer] using hkept
  case starts => rintro t hformer rfl harmed; simp only [Session.capdEdge, hformer, Session.markStart_armed harmed]
  case spaceEnds =>
    rintro t hformer rfl hrecording
    simp only [Session.capdEdge, hformer, Session.markStart_dated hrecording]
  case space => rintro t hformer rfl; simpa only [Session.capdEdge, hformer] using hkept
  case markEnds => rintro start last fall hformer rfl; simp only [Session.capdEdge, hformer, Session.markEnd_eq]
  case mark => rintro start last fall hformer rfl; simpa only [Session.capdEdge, hformer] using hkept

/-! ### A rising and a falling edge, by the former (R145) -/

namespace Session
variable {c : Session} {now : Nat}

theorem risingEdge_restarts {t : Nat} (hformer : c.former = .initial (some t)) (hsoon : now ≤ t + 160 * 8) :
    c.risingEdge now = { c with former := .initial none } := by
  simp only [risingEdge, hformer]
  exact if_neg (Nat.not_lt.mpr hsoon)

theorem risingEdge_initial {t : Nat} (hformer : c.former = .initial (some t)) (hlate : t + 160 * 8 < now)
    (harmed : c.state = .armed) : c.risingEdge now = c.afterStart now := by
  simp only [risingEdge, hformer, markStart_armed harmed]
  exact if_pos hlate

theorem risingEdge_starts {since : Option Nat} (hformer : c.former = .space since) (harmed : c.state = .armed) :
    c.risingEdge now = c.afterStart now := by
  simp only [risingEdge, hformer, markStart_armed harmed]

theorem risingEdge_space {t : Nat} (hformer : c.former = .space (some t)) (hrecording : c.state = .recording) :
    c.risingEdge now = c.afterSpace t now := by
  simp only [risingEdge, hformer, markStart_dated hrecording]

section
variable {start lastRise fall : Nat}

theorem risingEdge_continues (hformer : c.former = .mark start lastRise (some fall)) (hsoon : now < lastRise + 160 * 8) :
    c.risingEdge now =
      { c with former := .mark start now none, edges := if c.estimate = .pending then c.edges + 1 else c.edges } := by
  simp only [risingEdge, hformer]
  exact if_pos hsoon

theorem risingEdge_late (hformer : c.former = .mark start lastRise (some fall)) (hlate : lastRise + 160 * 8 ≤ now) :
    c.risingEdge now = if (c.afterMark start lastRise fall).running
      then (c.afterMark start lastRise fall).markStart (some fall) now else c.afterMark start lastRise fall := by
  simp only [risingEdge, hformer, markEnd_eq]
  exact if_neg (Nat.not_lt.mpr hlate)

theorem risingEdge_ends (hformer : c.former = .mark start lastRise (some fall)) (hlate : lastRise + 160 * 8 ≤ now)
    (hgoes : (c.afterMark start lastRise fall).state = .recording) :
    c.risingEdge now = (c.afterMark start lastRise fall).afterSpace fall now := by
  rw [risingEdge_late hformer hlate, if_pos (by simp [running, hgoes]), markStart_dated hgoes]

theorem risingEdge_fills (hformer : c.former = .mark start lastRise (some fall)) (hlate : lastRise + 160 * 8 ≤ now)
    (hdone : (c.afterMark start lastRise fall).state = .done) : c.risingEdge now = c.afterMark start lastRise fall := by
  rw [risingEdge_late hformer hlate, if_neg (by simp [running, hdone])]

end

theorem fallingEdge_initial (hformer : c.former = .initial none) :
    c.fallingEdge now = { c with former := .initial (some now) } := by
  simp only [fallingEdge, hformer]

variable {start lastRise : Nat} (hformer : c.former = .mark start lastRise none)
include hformer

theorem fallingEdge_kept (hsoon : now < lastRise + 160 * 8) :
    c.fallingEdge now = { c with former := .mark start lastRise (some now) } := by
  simp only [fallingEdge, hformer]
  exact if_neg (Nat.not_le.mpr hsoon)

theorem fallingEdge_ends (hlate : lastRise + 160 * 8 ≤ now) : c.fallingEdge now = c.afterMark start lastRise now := by
  simp only [fallingEdge, hformer, markEnd_eq]
  exact if_pos hlate

end Session

/-! ### The edges of CAPC and of the loopback waveform (R146) -/

theorem State.edgeReaches_iff (s : State) (source : CaptureSource) (input : EdgeInput) (level : Bool) :
    s.edgeReaches source input level = true ↔
      source = .capc ∧ input = .capc ∨ ∃ z, source = .loopback z ∧ input = .loopback ∧ s.loopback z = level := by
  cases source <;> cases input <;> simp [State.edgeReaches]

section
variable {s : State} {c : Session} {input : EdgeInput}

theorem edgeTaken_rising_iff :
    EdgeTaken s c input true ↔ (s.edgeReaches c.source input true && !c.former.level) = true := by
  rw [EdgeTaken, Bool.and_eq_true, Bool.not_eq_true', State.edgeReaches_iff, and_comm, Bool.not_true]

theorem edgeTaken_falling_iff :
    EdgeTaken s c input false ↔ (s.edgeReaches c.source input false && c.former.level) = true := by
  rw [EdgeTaken, Bool.and_eq_true, State.edgeReaches_iff, and_comm, Bool.not_false]

theorem captureRisingEdge_ignored (h : ∀ c, s.capture = some c → ¬ (c.isRunning ∧ EdgeTaken s c input true)) :
    captureRisingEdge input s = s.moveInput input true := by
  unfold captureRisingEdge
  dsimp only
  split
  · rfl
  next c hrunning =>
    obtain ⟨hc, hrun⟩ := (s.runningSession_eq_some c).mp hrunning
    exact if_neg fun hreaches => h c hc ⟨hrun, edgeTaken_rising_iff.mpr hreaches⟩

theorem captureFallingEdge_ignored (h : ∀ c, s.capture = some c → ¬ (c.isRunning ∧ EdgeTaken s c input false)) :
    captureFallingEdge input s = s.moveInput input false := by
  unfold captureFallingEdge
  dsimp only
  split
  · rfl
  next c hrunning =>
    obtain ⟨hc, hrun⟩ := (s.runningSession_eq_some c).mp hrunning
    exact if_neg fun hreaches => h c hc ⟨hrun, edgeTaken_falling_iff.mpr hreaches⟩

variable (hc : s.capture = some c) (hrun : c.isRunning)
include hc hrun

theorem captureRisingEdge_taken (htaken : EdgeTaken s c input true) :
    captureRisingEdge input s = (s.moveInput input true).withSession (c.risingEdge s.ticks) := by
  simp only [captureRisingEdge, (s.runningSession_eq_some c).mpr ⟨hc, hrun⟩, if_pos (edgeTaken_rising_iff.mp htaken),
    State.putSession_eq]

theorem captureFallingEdge_taken (htaken : EdgeTaken s c input false) :
    captureFallingEdge input s = (s.moveInput input false).withSession (c.fallingEdge s.ticks) := by
  simp only [captureFallingEdge, (s.runningSession_eq_some c).mpr ⟨hc, hrun⟩, if_pos (edgeTaken_falling_iff.mp htaken),
    State.putSession_eq]

/-! ### The 160 µs of the former (R145) -/

theorem markEndTimeout_mark {start lastRise fall : Nat} (hsource : c.source ≠ .capd)
    (hformer : c.former = .mark start lastRise (some fall)) :
    markEndTimeout s = (s.advance (lastRise + 160 * 8)).withSession (c.afterMark start lastRise fall) := by
  simp only [markEndTimeout, (s.runningSession_eq_some c).mpr ⟨hc, hrun⟩, hformer, if_neg hsource, State.putSession_eq,
    Session.markEnd_eq]

theorem initialSpaceRecognised_counted {t : Nat} (hformer : c.former = .initial (some t)) :
    initialSpaceRecognised s = { s.advance (t + 160 * 8) with capture := some { c with former := .space none } } := by
  simp only [initialSpaceRecognised, (s.runningSession_eq_some c).mpr ⟨hc, hrun⟩, hformer]
  rfl

end

theorem markEndTimeout_stopped {s : State} (h : ∀ c start last fall, s.capture = some c → c.isRunning →
    c.source = .capd ∨ c.former ≠ .mark start last (some fall)) : markEndTimeout s = s := by
  unfold markEndTimeout
  split
  · rfl
  next c hrunning =>
    obtain ⟨hc, hrun⟩ := (s.runningSession_eq_some c).mp hrunning
    split
    · next start last fall hformer => exact if_pos ((h c start last fall hc hrun).resolve_right (not_not.mpr hformer))
    · rfl

theorem initialSpaceRecognised_stopped {s : State}
    (h : ∀ c t, s.capture = some c → c.isRunning → c.former ≠ .initial (some t)) : initialSpaceRecognised s = s := by
  unfold initialSpaceRecognised
  split
  · rfl
  next c hrunning =>
    obtain ⟨hc, hrun⟩ := (s.runningSession_eq_some c).mp hrunning
    split
    · next t hformer => exact absurd hformer (h c t hc hrun)
    · rfl

theorem State.moveInput_eq (s : State) (input : EdgeInput) (level : Bool) : s.moveInput input level =
    { s with pins := { s.pins with capc := (s.moveInput input level).pins.capc } } := by
  cases input <;> rfl

/-- Settles O51: the edges that the session's input does not make, the edges by the former, then the two timers. -/
theorem carrierEdgesFormMarks : Obligations.CarrierEdgesFormMarks := by
  refine fun s input => ⟨⟨s.moveInput input true, s.moveInput input false, s.moveInput_eq input true,
    s.moveInput_eq input false, ?capc, ?loopback, fun h => congrArg _ (captureRisingEdge_ignored h),
    fun h => congrArg _ (captureFallingEdge_ignored h), fun c hc hrun => ⟨fun htaken => ?rising, fun htaken => ?falling⟩⟩,
    fun c start last fall hc hrun hsource hformer => congrArg _ (markEndTimeout_mark hc hrun hsource hformer),
    fun h => congrArg _ (markEndTimeout_stopped h),
    fun c t hc hrun hformer => congrArg _ (initialSpaceRecognised_counted hc hrun hformer),
    fun h => congrArg _ (initialSpaceRecognised_stopped h)⟩
  case capc => rintro rfl; exact ⟨rfl, rfl⟩
  case loopback => rintro rfl; exact ⟨rfl, rfl⟩
  case rising =>
    have hexec : exec (.captureRisingEdge input) s =
        .next ((s.moveInput input true).withSession (c.risingEdge s.ticks)) :=
      congrArg _ (captureRisingEdge_taken hc hrun htaken)
    rw [hexec]
    refine ⟨fun t hformer hsoon => ?restarts, fun t hformer hlate harmed => ?initial, fun t hformer harmed => ?starts,
      fun t hformer hrecording => ?space, fun start last fall hformer hsoon => ⟨_, rfl, ?continues⟩,
      fun start last fall hformer hlate _ => ⟨_, rfl, fun hgoes => ?ends, fun hdone => ?fills⟩⟩
    case restarts =>
      rw [Session.risingEdge_restarts hformer hsoon]
      exact congrArg _ (State.withSession_former hrun ..)
    case initial => rw [Session.risingEdge_initial hformer hlate harmed]
    case starts => rw [Session.risingEdge_starts hformer harmed]
    case space => rw [Session.risingEdge_space hformer hrecording]
    case continues =>
      rw [Session.risingEdge_continues hformer hsoon]
      exact congrArg _ (State.withSession_former hrun ..)
    case ends => rw [Session.risingEdge_ends hformer hlate hgoes]
    case fills => rw [Session.risingEdge_fills hformer hlate hdone]
  case falling =>
    have hexec : exec (.captureFallingEdge input) s =
        .next ((s.moveInput input false).withSession (c.fallingEdge s.ticks)) :=
      congrArg _ (captureFallingEdge_taken hc hrun htaken)
    rw [hexec]
    refine ⟨fun hformer => ?initial, fun start last hformer hsoon => ?kept, fun start last hformer hlate => ?ends⟩
    case initial =>
      rw [Session.fallingEdge_initial hformer]
      exact congrArg _ (State.withSession_former hrun ..)
    case kept =>
      rw [Session.fallingEdge_kept hformer hsoon]
      exact congrArg _ (State.withSession_former hrun ..)
    case ends => rw [Session.fallingEdge_ends hformer hlate]

end Sys2Proof.Machine
end

section
/-!
The sources of the Notification Controller (R156 to R162): their numbers and the bytes that name them, when one is pending
and when deliverable, and the pick as the deliverable source that comes first by priority and then by number.
-/
namespace Sys2Proof.Machine

/-! ### Source numbers (R156) -/

theorem Source.ofNumber_eq_some {k : Nat} {n : Source} : Source.ofNumber k = some n ↔ k = n.number.val := by
  constructor
  · intro h
    unfold Source.ofNumber at h
    split at h
    case h_6 =>
      split at h
      · cases h; rfl
      · cases h
    all_goals cases h; rfl
  · rintro rfl
    cases n with
    | zone z => exact dif_pos z.isLt
    | engine | fault | link | capture | trigger => rfl

theorem Source.number_injective : Function.Injective Source.number := fun _ _ h =>
  Option.some_injective _ ((Source.ofNumber_eq_some.mpr rfl).symm.trans (Source.ofNumber_eq_some.mpr (congrArg Fin.val h)))

theorem toNat_byteOf_number (n : Source) : (byteOf n.number).toNat = n.number.val :=
  Nat.mod_eq_of_lt (n.number.isLt.trans (by decide))

theorem source?_eq_some {b : Byte} {n : Source} : source? b = some n ↔ b = byteOf n.number := by
  rw [source?, Source.ofNumber_eq_some, ← toNat_byteOf_number, BitVec.toNat_inj]

@[simp] theorem source?_byteOf (n : Source) : source? (byteOf n.number) = some n := source?_eq_some.mpr rfl

theorem byteOf_number_injective : Function.Injective fun n : Source => byteOf n.number := fun n _ h =>
  Option.some_injective _ ((source?_byteOf n).symm.trans (source?_eq_some.mpr h))

theorem source?_eq_none {b : Byte} (h : 13 ≤ b.toNat) : source? b = none := by
  refine Option.eq_none_iff_forall_ne_some.mpr fun n hn => ?_
  rw [source?_eq_some.mp hn, toNat_byteOf_number] at h
  exact absurd n.number.isLt (Nat.not_lt.mpr h)

theorem allSources_at_number (n : Source) : allSources[n.number.val]? = some n := by
  cases n with
  | zone z => revert z; decide
  | engine | fault | link | capture | trigger => rfl

theorem mem_allSources (n : Source) : n ∈ allSources := List.mem_of_getElem? (allSources_at_number n)

theorem allSources_sorted : allSources.Pairwise fun n m => n.number < m.number := by decide

/-! ### Pending and deliverable (R157, R161) -/

theorem LinkCauses.isClear_iff (l : LinkCauses) : l.isClear = true ↔ l = ⟨false, false, false, false⟩ := by
  obtain ⟨check, truncated, length, overrun⟩ := l
  simp [LinkCauses.isClear, and_assoc]

section
variable (s : State)

theorem State.sourcePending_zone_iff (z : Fin 8) : s.sourcePending (.zone z) = true ↔ (s.zone z).completions ≠ [] := by
  simp [State.sourcePending]

theorem State.sourcePending_engine_iff : s.sourcePending .engine = true ↔ s.notices.engineLatch ≠ none :=
  Option.isSome_iff_ne_none

theorem State.sourcePending_fault_iff : s.sourcePending .fault = true ↔ s.notices.faultLatch ≠ [] := by
  simp [State.sourcePending]

theorem State.sourcePending_link_iff :
    s.sourcePending .link = true ↔ s.notices.linkLatch ≠ ⟨false, false, false, false⟩ := by
  simp only [State.sourcePending, Bool.not_eq_true', ← Bool.not_eq_true, LinkCauses.isClear_iff, ne_eq]

theorem State.sourcePending_capture_iff : s.sourcePending .capture = true ↔ s.notices.captureLatch ≠ none :=
  Option.isSome_iff_ne_none

theorem State.sourcePending_trigger_iff :
    s.sourcePending .trigger = true ↔ ∃ l : Fin 4, s.notices.triggerLatch[l] ≠ none := by
  simp [State.sourcePending, Vector.any_eq_true, Fin.exists_iff, Option.isSome_iff_ne_none]

theorem State.inService_eq_false_iff (n : Source) : s.inService n = false ↔ ∀ e ∈ s.notices.inService, e.source ≠ n := by
  simp [State.inService]

theorem State.nests_eq_decide (p : Fin 8) : s.nests p = decide (∀ e ∈ s.notices.inService, p < e.priority) :=
  Bool.eq_iff_iff.mpr (by simp [State.nests])

theorem State.deliverable_iff (n : Source) : s.deliverable n = true ↔ s.sourcePending n = true
    ∧ (s.setting n).masked = false ∧ (s.setting n).priority.val < s.notices.threshold.val
    ∧ (∀ e ∈ s.notices.inService, e.source ≠ n) ∧ ∀ e ∈ s.notices.inService, (s.setting n).priority < e.priority := by
  simp only [State.deliverable, Bool.and_eq_true, Bool.not_eq_true', decide_eq_true_eq, State.inService_eq_false_iff,
    State.nests_eq_decide, and_assoc]

/-! ### The pick and ATTN (R161, R162) -/

/-- The place of a source in the order of R162: its priority number first, then its source number. -/
def State.urgency (n : Source) : Fin 8 ×ₗ Fin 13 := toLex ((s.setting n).priority, n.number)

theorem State.urgency_injective : Function.Injective s.urgency := fun _ _ h =>
  Source.number_injective (congrArg Prod.snd (toLex_inj.mp h))

theorem State.urgency_le_iff (n m : Source) : s.urgency n ≤ s.urgency m ↔ (s.setting n).priority < (s.setting m).priority
    ∨ (s.setting n).priority = (s.setting m).priority ∧ n.number ≤ m.number :=
  Prod.Lex.toLex_le_toLex

/-- Of two sources in number order the better one is the more urgent. -/
theorem State.better_most_urgent {b n : Source} (h : b.number < n.number) :
    ∃ w, (w = b ∨ w = n) ∧ s.better (some b) n = some w ∧ s.urgency w ≤ s.urgency b ∧ s.urgency w ≤ s.urgency n := by
  simp only [State.better, State.urgency_le_iff]
  split
  · next hlower => exact ⟨n, .inr rfl, rfl, .inl hlower, .inr ⟨rfl, le_rfl⟩⟩
  · next hnot => exact ⟨b, .inl rfl, rfl, .inr ⟨rfl, le_rfl⟩, (not_lt.mp hnot).lt_or_eq.imp_right fun heq => ⟨heq, h.le⟩⟩

/-- The search over a list in number order ends with its most urgent source. -/
theorem State.foldl_better_most_urgent (l : List Source) (b : Source)
    (hsorted : (b :: l).Pairwise fun n m => n.number < m.number) :
    ∃ w ∈ b :: l, l.foldl s.better (some b) = some w ∧ ∀ m ∈ b :: l, s.urgency w ≤ s.urgency m := by
  induction l generalizing b with
  | nil => exact ⟨b, List.mem_cons_self, rfl, by simp⟩
  | cons n l ih =>
    obtain ⟨hb, hn⟩ := List.pairwise_cons.mp hsorted
    obtain ⟨v, hv, hbetter, hvb, hvn⟩ := s.better_most_urgent (hb n List.mem_cons_self)
    have hvl : (v :: l).Pairwise fun n m => n.number < m.number := by
      rcases hv with rfl | rfl
      · exact hsorted.sublist (.cons_cons _ (.cons _ (.refl l)))
      · exact hn
    obtain ⟨w, hw, hfold, hleast⟩ := ih v hvl
    have hwv : s.urgency w ≤ s.urgency v := hleast v List.mem_cons_self
    refine ⟨w, ?_, by rw [List.foldl_cons, hbetter, hfold], fun m hm => ?_⟩
    · rcases List.mem_cons.mp hw with rfl | hw
      · rcases hv with rfl | rfl <;> simp
      · simp [hw]
    · rcases List.mem_cons.mp hm with rfl | hm
      · exact hwv.trans hvb
      rcases List.mem_cons.mp hm with rfl | hm
      · exact hwv.trans hvn
      · exact hleast m (List.mem_cons_of_mem _ hm)

theorem State.mem_deliverables (n : Source) : n ∈ allSources.filter s.deliverable ↔ s.deliverable n = true := by
  simp [mem_allSources]

/-- Where some source is deliverable, the pick is a deliverable source and none is more urgent. -/
theorem State.exists_pick {n : Source} (hn : s.deliverable n = true) :
    ∃ w, s.pick = some w ∧ s.deliverable w = true ∧ ∀ m, s.deliverable m = true → s.urgency w ≤ s.urgency m := by
  have hsorted := allSources_sorted.filter s.deliverable
  unfold State.pick
  cases hlist : allSources.filter s.deliverable with
  | nil => exact absurd ((s.mem_deliverables n).mpr hn) (by simp [hlist])
  | cons b l =>
    obtain ⟨w, hw, hfold, hleast⟩ := s.foldl_better_most_urgent l b (hlist ▸ hsorted)
    simp only [← hlist, State.mem_deliverables] at hw hleast
    exact ⟨w, hfold, hw, hleast⟩

theorem State.pick_eq_none_iff : s.pick = none ↔ ∀ n, s.deliverable n = false := by
  constructor
  · intro hpick n
    refine Bool.eq_false_iff.mpr fun hn => ?_
    obtain ⟨w, hw, -⟩ := s.exists_pick hn
    rw [hpick] at hw
    cases hw
  · intro hnone
    rw [State.pick, List.filter_eq_nil_iff.mpr fun n _ => by simp [hnone n]]
    rfl

theorem State.pick_eq_some_iff (n : Source) : s.pick = some n ↔
    s.deliverable n = true ∧ ∀ m, s.deliverable m = true → s.urgency n ≤ s.urgency m := by
  constructor
  · intro hpick
    have hsome : ∃ m, s.deliverable m = true := by
      by_contra hnone
      rw [s.pick_eq_none_iff.mpr (by simpa using hnone)] at hpick
      cases hpick
    obtain ⟨m, hm⟩ := hsome
    obtain ⟨w, hw, hspec⟩ := s.exists_pick hm
    cases hpick.symm.trans hw
    exact hspec
  · rintro ⟨hn, hleast⟩
    obtain ⟨w, hw, hdeliverable, hw_least⟩ := s.exists_pick hn
    rw [hw, s.urgency_injective (le_antisymm (hw_least n hn) (hleast w hdeliverable))]

theorem State.pick_deliverable {s : State} {n : Source} (h : s.pick = some n) : s.deliverable n = true :=
  ((s.pick_eq_some_iff n).mp h).1

theorem State.attn_iff : s.attn = true ↔ s.assertedReset = none ∧ ∃ n, s.deliverable n = true := by
  simp [State.attn, Option.isSome_iff_ne_none, State.pick_eq_none_iff]

end

/-- Settles O53: deliverability, what makes each source pending, then the pick and ATTN. -/
theorem pickIsMostUrgentDeliverable : Obligations.PickIsMostUrgentDeliverable := fun s =>
  ⟨s.deliverable_iff, s.sourcePending_zone_iff, s.sourcePending_engine_iff, s.sourcePending_fault_iff,
    s.sourcePending_link_iff, s.sourcePending_capture_iff, s.sourcePending_trigger_iff, s.pick_eq_none_iff,
    fun n => by simpa only [s.urgency_le_iff] using s.pick_eq_some_iff n, s.attn_iff⟩

end Sys2Proof.Machine
end

section
/-!
Every step keeps the in-service list strictly nested (R160): one command makes at most one move of the list (it claims a
source that nests, removes an entry, or is a reset), and each move keeps the order.
-/
namespace Sys2Proof.Machine

/-! ### The moves of the in-service list -/

/-- The order of R160 between an entry and one claimed after it. -/
def ServiceEntry.Above (earlier later : ServiceEntry) : Prop :=
  later.priority < earlier.priority ∧ later.source ≠ earlier.source

/-- What one command can make of the in-service list (R163, R164, R168, R170). -/
inductive ServiceMove (entries : List ServiceEntry) : List ServiceEntry → Prop
  | keeps : ServiceMove entries entries
  | clears : ServiceMove entries []
  | claims {e : ServiceEntry} (h : ∀ f ∈ entries, f.Above e) : ServiceMove entries (entries ++ [e])
  | removes (e : ServiceEntry) : ServiceMove entries (entries.erase e)

theorem ServiceMove.nested {entries after : List ServiceEntry} (hmove : ServiceMove entries after)
    (h : entries.Pairwise ServiceEntry.Above) : after.Pairwise ServiceEntry.Above := by
  cases hmove with
  | keeps => exact h
  | clears => exact .nil
  | claims habove => exact List.pairwise_append.mpr ⟨h, List.pairwise_singleton .., by simpa using habove⟩
  | removes e => exact h.sublist List.erase_sublist

/-- One move of the in-service list, from state to state. -/
abbrev State.Serves (s t : State) : Prop := ServiceMove s.notices.inService t.notices.inService

theorem State.Serves.of_same {s t : State} (h : t.notices.inService = s.notices.inService) : s.Serves t := by
  rw [State.Serves, h]; exact .keeps

theorem State.Serves.of_notices {s t : State} (h : t.notices = s.notices) : s.Serves t := .of_same (by rw [h])

theorem State.Serves.inServiceLaw {s t : State} (hmove : s.Serves t) (h : InServiceLaw s) : InServiceLaw t := hmove.nested h

/-! ### The requests of the controller -/

section
variable {s : State}

theorem State.above_claim {n : Source} (hservice : s.inService n = false) (hnests : s.nests (s.setting n).priority = true) :
    ∀ e ∈ s.notices.inService, e.Above ⟨n, (s.setting n).priority⟩ := by
  rw [State.inService_eq_false_iff] at hservice
  rw [State.nests_eq_decide, decide_eq_true_eq] at hnests
  exact fun e he => ⟨hnests e he, (hservice e he).symm⟩

/-- A fetch claims a source only where its priority nests below every entry (R163, R164). -/
theorem State.fetch_serves {n : Source} {claimed : Bool} (hservice : s.inService n = false)
    (hnests : claimed = true → s.nests (s.setting n).priority = true) : s.Serves (s.fetch n claimed).state := by
  unfold State.fetch
  split
  · exact .keeps
  cases claimed with
  | false => exact .keeps
  | true => exact .claims (State.above_claim hservice (hnests rfl))

theorem noticeFetch_serves (source : Option Byte) : s.Serves (noticeFetch source s).state := by
  unfold noticeFetch
  split
  · split
    · exact .keeps
    · next n hpick =>
      obtain ⟨-, -, -, hservice, hnests⟩ := (s.deliverable_iff n).mp (State.pick_deliverable hpick)
      exact State.fetch_serves ((s.inService_eq_false_iff n).mpr hservice) fun _ =>
        (s.nests_eq_decide _).trans (decide_eq_true hnests)
  split
  · exact .keeps
  split
  · next hpending =>
    simp only [Bool.and_eq_true, Bool.not_eq_true'] at hpending
    exact State.fetch_serves hpending.2 id
  · exact .keeps

theorem noticeAck_serves (source : Option Byte) : s.Serves (noticeAck source s).state := by
  unfold noticeAck
  split
  · split
    · exact .keeps
    · exact .removes _
  split
  · exact .keeps
  split
  · exact .keeps
  · exact .removes _

theorem noticeSetup_serves (threshold : Byte) (entries : List SourceEntry) :
    s.Serves (noticeSetup threshold entries s).state := by
  unfold noticeSetup
  split
  · split <;> exact .keeps
  · exact .keeps

end

/-! ### Requests that leave the notices alone -/

@[simp] theorem State.release_notices (s : State) (z : Fin 8) (tag : Half) : (s.release z tag).state.notices = s.notices := by
  unfold State.release State.releaseAgain State.releaseLate
  repeat' split
  all_goals simp

@[simp] theorem State.unhold_notices (s : State) (n : Fin 4) : (s.unhold n).notices = s.notices := by
  unfold State.unhold State.lineRelease
  repeat' split
  all_goals simp

@[simp] theorem State.bind_notices (s : State) (n : Fin 4) (new : Option Binding) : (s.bind n new).notices = s.notices := by
  unfold State.bind
  split <;> split <;> simp

@[simp] theorem State.flushActive_notices (s : State) (z : Fin 8) (action : Option CancelMode) :
    (s.flushActive z action).1.notices = s.notices := by
  unfold State.flushActive
  repeat' split
  all_goals simp

/-- The requests of the Notification Controller that change its records. -/
def movesNotices : Request → Bool
  | .noticeFetch _ => true
  | .noticeAck _ => true
  | .noticeSetup .. => true
  | _ => false

/-- Every request but NOTICE FETCH, NOTICE ACK and NOTICE SETUP leaves the notices as they are. -/
theorem answer_notices {r : Request} (h : movesNotices r = false) (s : State) : (answer r s).state.notices = s.notices := by
  cases r with
  | noticeFetch | noticeAck | noticeSetup => cases h
  | libraryQuery | carrierQuery | timeQuery | captureQuery | captureStop | noticePeek | identify | engineReset => rfl
  | templateBegin | templateAppend | templateCommit | templateAbandon | templateDelete | templateQuery =>
    simp only [answer, templateBegin, templateAppend, templateCommit, templateAbandon, templateDelete, templateQuery]
    repeat' split
    all_goals rfl
  | zoneSetup | zoneQuery | zoneReset | faultClear | completionTake =>
    simp only [answer, zoneSetup, zoneQuery, zoneReset, faultClear, completionTake]
    repeat' split
    all_goals simp
  | jobSubmit | jobRelease | jobCancel | zoneFlush =>
    simp only [answer, jobSubmit, jobRelease, jobCancel, State.cancelActive, zoneFlush]
    repeat' split
    all_goals simp
  | slotPlan | slotQuery | captureArm | captureRead =>
    simp only [answer, slotPlan, slotQuery, captureArm, captureRead]
    repeat' split
    all_goals rfl
  | triggerBind | triggerQuery =>
    simp only [answer, triggerBind, State.rebind, triggerQuery]
    repeat' split
    all_goals simp

theorem answer_serves (r : Request) (s : State) : s.Serves (answer r s).state := by
  cases hr : movesNotices r with
  | false => exact .of_notices (answer_notices hr s)
  | true =>
    cases r with
    | noticeFetch source => exact noticeFetch_serves source
    | noticeAck source => exact noticeAck_serves source
    | noticeSetup threshold entries => exact noticeSetup_serves threshold entries
    | _ => cases hr

/-! ### Events that leave the in-service list alone: of the notices they move the latches at most -/

section
variable (s : State)

@[simp] theorem State.sense_inService (z : Fin 8) : (s.sense z).notices.inService = s.notices.inService := by
  unfold State.sense
  repeat' split
  all_goals simp [State.driverFault_notices]

@[simp] theorem State.senseAll_inService (zs : List (Fin 8)) :
    (s.senseAll zs).notices.inService = s.notices.inService := by
  induction zs generalizing s with
  | nil => rfl
  | cons z zs ih => exact (ih (s.sense z)).trans (s.sense_inService z)

@[simp] theorem State.latchTrigger_inService (n : Fin 4) (status : Status) :
    (s.latchTrigger n status).notices.inService = s.notices.inService := rfl

@[simp] theorem State.lineSubmit_inService (b : Binding) (n : Fin 4) (mode : JobMode) :
    (s.lineSubmit b n mode).notices.inService = s.notices.inService := by
  unfold State.lineSubmit
  split <;> simp

@[simp] theorem State.rising_inService (b : Binding) (n : Fin 4) :
    (s.rising b n).notices.inService = s.notices.inService := by
  unfold State.rising State.retrigger
  repeat' split
  all_goals simp

@[simp] theorem State.falling_notices (b : Binding) (n : Fin 4) : (s.falling b n).notices = s.notices := by
  unfold State.falling State.lineRelease
  split <;> simp

@[simp] theorem State.takeLevel_inService (n : Fin 4) (level : Bool) :
    (s.takeLevel n level).notices.inService = s.notices.inService := by
  unfold State.takeLevel
  dsimp only
  repeat' split
  all_goals simp

@[simp] theorem State.withSession_inService (c : Session) :
    (s.withSession c).notices.inService = s.notices.inService := rfl

@[simp] theorem State.putSession_inService (c : Session) :
    (s.putSession c).notices.inService = s.notices.inService := by
  rw [State.putSession_eq, State.withSession_inService]

@[simp] theorem State.moveInput_notices (input : EdgeInput) (level : Bool) :
    (s.moveInput input level).notices = s.notices := by
  rw [State.moveInput_eq]

theorem slotBoundary_inService : (slotBoundary s).notices.inService = s.notices.inService := by
  unfold slotBoundary State.nextSlot
  split <;> simp

theorem phaseEnd_inService (z : Fin 8) : (phaseEnd z s).notices.inService = s.notices.inService := by
  unfold phaseEnd
  repeat' split
  all_goals simp

theorem frameTimerExpiry_inService (z : Fin 8) : (frameTimerExpiry z s).notices.inService = s.notices.inService := by
  unfold frameTimerExpiry
  repeat' split
  all_goals simp

theorem quietTimeExpiry_notices (z : Fin 8) : (quietTimeExpiry z s).notices = s.notices := by
  unfold quietTimeExpiry
  split <;> simp

theorem driverReport_inService (z : Fin 8) (report : Condition) :
    (driverReport z report s).notices.inService = s.notices.inService := by
  unfold driverReport
  dsimp only
  split <;> simp

theorem trigPinChange_inService (n : Fin 4) (level : Bool) :
    (trigPinChange n level s).notices.inService = s.notices.inService := by
  unfold trigPinChange State.pinMoved
  dsimp only
  repeat' split
  all_goals simp

theorem debounceExpiry_inService (n : Fin 4) : (debounceExpiry n s).notices.inService = s.notices.inService := by
  unfold debounceExpiry
  repeat' split
  all_goals simp

theorem highHalfStart_notices (g : Fin 4) : (highHalfStart g s).notices = s.notices := by
  unfold highHalfStart State.startHigh
  repeat' split
  all_goals simp

theorem highHalfEnd_notices (owner : HalfOwner) : (highHalfEnd owner s).notices = s.notices := by
  unfold highHalfEnd State.startLow
  repeat' split
  all_goals simp

theorem capdEdge_inService (level : Bool) : (capdEdge level s).notices.inService = s.notices.inService := by
  unfold capdEdge
  dsimp only
  repeat' split
  all_goals simp

theorem captureRisingEdge_inService (input : EdgeInput) :
    (captureRisingEdge input s).notices.inService = s.notices.inService := by
  unfold captureRisingEdge
  repeat' split
  all_goals simp

theorem captureFallingEdge_inService (input : EdgeInput) :
    (captureFallingEdge input s).notices.inService = s.notices.inService := by
  unfold captureFallingEdge
  repeat' split
  all_goals simp

theorem markEndTimeout_inService : (markEndTimeout s).notices.inService = s.notices.inService := by
  unfold markEndTimeout
  repeat' split
  all_goals simp

theorem initialSpaceRecognised_notices : (initialSpaceRecognised s).notices = s.notices := by
  unfold initialSpaceRecognised
  repeat' split
  all_goals simp

theorem startTimeoutExpiry_inService : (startTimeoutExpiry s).notices.inService = s.notices.inService := by
  unfold startTimeoutExpiry
  repeat' split
  all_goals rfl

theorem endGapExpiry_inService : (endGapExpiry s).notices.inService = s.notices.inService := by
  unfold endGapExpiry
  repeat' split
  all_goals rfl

theorem stuckMark_inService : (stuckMark s).notices.inService = s.notices.inService := by
  unfold stuckMark
  repeat' split
  all_goals rfl

theorem gapTimerExpiry_inService : (gapTimerExpiry s).notices.inService = s.notices.inService := by
  unfold gapTimerExpiry
  repeat' split
  all_goals rfl

theorem State.idle_notices : s.idle.notices = s.notices := by
  unfold State.idle State.choose
  repeat' split
  all_goals rfl

/-! ### The port: it hands over at most one request in an event (R177) -/

theorem State.handle_serves (seq : Byte) (r : Request) : s.Serves (s.handle seq r) := by
  unfold State.handle
  split
  · exact answer_serves r s
  · exact .keeps

theorem State.handleBody_serves (body : List Byte) : s.Serves (s.handleBody body) := by
  unfold State.handleBody
  split
  · split
    · exact s.handle_serves _ _
    · exact .keeps
    · exact .keeps
  · exact .keeps

theorem State.takeRequest_serves : s.Serves s.takeRequest := by
  unfold State.takeRequest
  split
  · exact .keeps
  split
  · exact .keeps
  · next body rest _ => exact (s.setBuffer rest).handleBody_serves body

theorem State.offer_serves (body : List Byte) : s.Serves (s.offer body) := by
  unfold State.offer
  split
  · exact (s.setBuffer (s.port.buffer ++ [body])).takeRequest_serves
  · exact .keeps

theorem State.request_serves (seq : Byte) (r : Request) : s.Serves (s.request seq r) := by
  unfold State.request
  split
  · exact .keeps
  split
  · exact s.handle_serves seq r
  · exact s.offer_serves _

theorem State.assemble_serves (b : Byte) : s.Serves (s.assemble b) := by
  unfold State.assemble State.lengthByte State.lastByte
  split
  · split <;> exact .keeps
  · split <;> exact .keeps
  · exact .keeps
  · exact .keeps
  split
  · exact (s.setPort s.port.hunt).offer_serves s.port.body
  · exact .keeps

theorem receiveByte_serves (data : Byte) (edge : CharEdge) : s.Serves (receiveByte data edge s) := by
  unfold receiveByte
  split
  · exact .keeps
  split
  · exact .keeps
  · exact s.rxdIdle.assemble_serves data

theorem replySent_serves : s.Serves (replySent s) := by
  unfold replySent
  split
  · exact .keeps
  next h _ =>
    split
    · exact .clears
    · exact (s.advance h.endsAt).idlePort.takeRequest_serves

/-! ### Resets: nothing is in service (R170) -/

theorem State.release?_serves : s.Serves s.release? := by
  unfold State.release?
  split
  · exact .keeps
  · exact .clears

theorem supplyRise_serves : s.Serves (supplyRise s) := by
  unfold supplyRise
  split
  · exact .clears
  · exact .keeps

theorem supplyStable_serves : s.Serves (supplyStable s) := by
  unfold supplyStable
  split
  · dsimp only
    split
    · exact State.release?_serves { s with supply := .stable }
    · exact .keeps
  · exact .keeps

theorem supplyFailure_serves : s.Serves (supplyFailure s) := by
  unfold supplyFailure
  split
  · exact .keeps
  · exact .clears

theorem resetNLow_serves : s.Serves (resetNLow s) := by
  unfold resetNLow
  dsimp only
  split
  · exact .clears
  · exact .keeps

theorem resetNHigh_serves : s.Serves (resetNHigh s) := by
  unfold resetNHigh
  dsimp only
  split
  · exact State.release?_serves { s with pins := { s.pins with resetN := true } }
  · exact .keeps

theorem requestResetExpiry_serves : s.Serves (requestResetExpiry s) := by
  unfold requestResetExpiry
  split
  · exact (s.advance Config.requestResetTicks).release?_serves
  · exact .keeps

/-! ### Every command and every step -/

/-- Every command answers a next state, by one move of the in-service list. -/
theorem exec_serves (c : Instr) : ∃ t, exec c s = .next t ∧ s.Serves t := by
  cases hc : requestOf c with
  | some qr => exact ⟨_, exec_request hc s, s.request_serves _ _⟩
  | none =>
    cases c with
    | receiveByte data edge => exact ⟨_, rfl, receiveByte_serves s data edge⟩
    | gapTimerExpiry => exact ⟨_, rfl, .of_same (gapTimerExpiry_inService s)⟩
    | replySent => exact ⟨_, rfl, replySent_serves s⟩
    | supplyRise => exact ⟨_, rfl, supplyRise_serves s⟩
    | supplyStable => exact ⟨_, rfl, supplyStable_serves s⟩
    | supplyFailure => exact ⟨_, rfl, supplyFailure_serves s⟩
    | resetNLow => exact ⟨_, rfl, resetNLow_serves s⟩
    | resetNHigh => exact ⟨_, rfl, resetNHigh_serves s⟩
    | requestResetExpiry => exact ⟨_, rfl, requestResetExpiry_serves s⟩
    | slotBoundary => exact ⟨_, rfl, .of_same (slotBoundary_inService s)⟩
    | phaseEnd z => exact ⟨_, rfl, .of_same (phaseEnd_inService s z)⟩
    | frameTimerExpiry z => exact ⟨_, rfl, .of_same (frameTimerExpiry_inService s z)⟩
    | quietTimeExpiry z => exact ⟨_, rfl, .of_notices (quietTimeExpiry_notices s z)⟩
    | driverFault z report => exact ⟨_, rfl, .of_same (driverReport_inService s z report)⟩
    | trigPinChange line level => exact ⟨_, rfl, .of_same (trigPinChange_inService s line level)⟩
    | debounceExpiry line => exact ⟨_, rfl, .of_same (debounceExpiry_inService s line)⟩
    | highHalfStart g => exact ⟨_, rfl, .of_notices (highHalfStart_notices s g)⟩
    | highHalfEnd owner => exact ⟨_, rfl, .of_notices (highHalfEnd_notices s owner)⟩
    | capdEdge level => exact ⟨_, rfl, .of_same (capdEdge_inService s level)⟩
    | captureRisingEdge input => exact ⟨_, rfl, .of_same (captureRisingEdge_inService s input)⟩
    | captureFallingEdge input => exact ⟨_, rfl, .of_same (captureFallingEdge_inService s input)⟩
    | markEndTimeout => exact ⟨_, rfl, .of_same (markEndTimeout_inService s)⟩
    | initialSpaceRecognised => exact ⟨_, rfl, .of_notices (initialSpaceRecognised_notices s)⟩
    | startTimeoutExpiry => exact ⟨_, rfl, .of_same (startTimeoutExpiry_inService s)⟩
    | endGapExpiry => exact ⟨_, rfl, .of_same (endGapExpiry_inService s)⟩
    | stuckMark => exact ⟨_, rfl, .of_same (stuckMark_inService s)⟩
    | _ => cases hc

end

theorem step_serves {s t : State} (hstep : step s = .next t) : s.Serves t := by
  unfold step at hstep
  split at hstep
  · cases hstep; exact .of_notices s.idle_notices
  next c rest _ =>
    obtain ⟨u, hu, hmove⟩ := exec_serves { s with pending := rest } c
    rw [hu] at hstep
    cases hstep
    exact hmove

/-- Settles O56: a step makes one move of the in-service list, and every move keeps the order. -/
theorem stepKeepsInServiceOrder : Obligations.StepKeepsInServiceOrder :=
  fun _ _ h hstep => (step_serves hstep).inServiceLaw h

end Sys2Proof.Machine
end

section
/-!
The requests of the Notification Controller (R163 to R169): what a fetch delivers, carries and claims, what a peek reports,
which entry an acknowledgement removes, and what a setup makes of the settings.
-/
namespace Sys2Proof.Machine

/-! ### What a notice carries and what its delivery clears (R165) -/

section
variable {s : State}

/-- A pending source has a notice to deliver. -/
theorem State.exists_noticeBody {n : Source} (h : s.sourcePending n = true) : ∃ body, s.noticeBody n = some body := by
  cases n with
  | engine =>
    obtain ⟨cause, hlatch⟩ := Option.ne_none_iff_exists'.mp (s.sourcePending_engine_iff.mp h)
    exact ⟨.engine cause, by simp only [State.noticeBody, hlatch, Option.map_some]⟩
  | capture =>
    obtain ⟨copy, hlatch⟩ := Option.ne_none_iff_exists'.mp (s.sourcePending_capture_iff.mp h)
    exact ⟨.capture copy, by simp only [State.noticeBody, hlatch, Option.map_some]⟩
  | fault | link | trigger => exact ⟨_, rfl⟩
  | zone z =>
    obtain ⟨record, rest, hrecords⟩ := List.exists_cons_of_ne_nil ((s.sourcePending_zone_iff z).mp h)
    exact ⟨.zone record rest.length ((s.takeHead z).zone z).state, by simp only [State.noticeBody, hrecords]⟩

variable {body : NoticeBody}

theorem State.noticeBody_engine (h : s.noticeBody .engine = some body) :
    ∃ cause, s.notices.engineLatch = some cause ∧ body = .engine cause := by
  obtain ⟨cause, hlatch, rfl⟩ := Option.map_eq_some_iff.mp h
  exact ⟨cause, hlatch, rfl⟩

theorem State.noticeBody_capture (h : s.noticeBody .capture = some body) :
    ∃ copy, s.notices.captureLatch = some copy ∧ body = .capture copy := by
  obtain ⟨copy, hlatch, rfl⟩ := Option.map_eq_some_iff.mp h
  exact ⟨copy, hlatch, rfl⟩

theorem mem_allFaultPairs (p : Fin 8 × FaultKind) : p ∈ allFaultPairs := by
  obtain ⟨z, k⟩ := p
  cases k <;> (revert z; decide)

theorem allFaultPairs_sorted :
    allFaultPairs.Pairwise fun x y => x.1 < y.1 ∨ x.1 = y.1 ∧ x.2 = .openLoad ∧ y.2 = .overload := by decide

/-- A FAULT notice carries the latched pairs, by zone and OPEN before OVERLOAD. -/
theorem State.noticeBody_fault (h : s.noticeBody .fault = some body) :
    ∃ pairs, body = .fault pairs ∧ (∀ p, p ∈ pairs ↔ p ∈ s.notices.faultLatch)
      ∧ pairs.Pairwise fun x y => x.1 < y.1 ∨ x.1 = y.1 ∧ x.2 = .openLoad ∧ y.2 = .overload := by
  cases h
  exact ⟨_, rfl, fun p => by simp [mem_allFaultPairs], allFaultPairs_sorted.filter _⟩

/-- A zone's notice carries its head record, which its delivery takes. -/
theorem State.noticeBody_zone {z : Fin 8} (h : s.noticeBody (.zone z) = some body) :
    ∃ record rest, (s.zone z).completions = record :: rest
      ∧ s.deliver (.zone z) = { s with zones := s.zones.set z { s.zone z with completions := rest } }.considerActivation z
      ∧ body = .zone record rest.length (((s.deliver (.zone z)).zone z).state) := by
  cases hrecords : (s.zone z).completions with
  | nil => simp [State.noticeBody, hrecords] at h
  | cons record rest =>
    simp only [State.noticeBody, hrecords, Option.some.injEq] at h
    exact ⟨record, rest, rfl, State.takeHead_cons hrecords, h.symm⟩

/-! ### NOTICE FETCH (R163, R164) -/

theorem State.fetch_eq {n : Source} (h : s.noticeBody n = some body) (claimed : Bool) :
    s.fetch n claimed = accept ((s.deliver n).setService (s.claim n claimed))
      (.notice { source := n, claimed := if claimed then some (s.setting n).priority else none
                 inService := (s.claim n claimed).length } body) := by
  simp only [State.fetch, h]

theorem noticeFetch_no_pick (h : s.pick = none) : noticeFetch none s = refuse s .nothingPending := by
  simp only [noticeFetch, h]

theorem noticeFetch_undefined {b : Byte} (h : 13 ≤ b.toNat) : noticeFetch (some b) s = refuse s .badField := by
  simp only [noticeFetch, source?_eq_none h]

theorem noticeFetch_pick {n : Source} (h : s.pick = some n) : noticeFetch none s = s.fetch n true := by
  simp only [noticeFetch, h]

theorem noticeFetch_named (n : Source) : noticeFetch (some (byteOf n.number)) s =
    if s.sourcePending n && !s.inService n then s.fetch n (s.nests (s.setting n).priority)
    else refuseWith s .nothingPending (.noticeNone (s.sourcePending n) (s.inService n)) := by
  simp only [noticeFetch, source?_byteOf]

theorem noticeFetch_named_unready {n : Source} (h : s.sourcePending n = false ∨ s.inService n = true) :
    noticeFetch (some (byteOf n.number)) s =
      refuseWith s .nothingPending (.noticeNone (s.sourcePending n) (s.inService n)) := by
  rw [noticeFetch_named]
  exact if_neg (by rcases h with h | h <;> simp [h])

/-- A fetch delivers a pending source: the pick, claimed, or the named source, claimed where its priority nests. -/
theorem noticeFetch_delivers {n : Source} {request : Option Byte} {claimed : Bool}
    (h : request = none ∧ s.pick = some n ∧ claimed = true
      ∨ request = some (byteOf n.number) ∧ s.sourcePending n = true ∧ s.inService n = false
        ∧ claimed = decide (∀ e ∈ s.notices.inService, (s.setting n).priority < e.priority)) :
    s.sourcePending n = true ∧ noticeFetch request s = s.fetch n claimed := by
  rcases h with ⟨rfl, hpick, rfl⟩ | ⟨rfl, hpending, hservice, rfl⟩
  · exact ⟨((s.deliverable_iff n).mp (State.pick_deliverable hpick)).1, noticeFetch_pick hpick⟩
  · refine ⟨hpending, ?_⟩
    rw [noticeFetch_named, if_pos (by simp [hpending, hservice]), State.nests_eq_decide]

end

/-- Settles O54: the fetches that deliver nothing, then the delivery, source by source. -/
theorem noticeFetchDelivers : Obligations.NoticeFetchDelivers := by
  refine fun q s hs => ⟨fun hpick => ?nothing, fun b hb => ?undefined, fun n hn => ?unready, fun n request claimed h => ?_⟩
  case nothing => exact exec_answer (.noticeFetch none) rfl rfl hs (noticeFetch_no_pick hpick)
  case undefined => exact exec_answer (.noticeFetch (some b)) rfl rfl hs (noticeFetch_undefined hb)
  case unready =>
    exact exec_answer (.noticeFetch (some (byteOf n.number))) rfl rfl hs (noticeFetch_named_unready hn)
  obtain ⟨hpending, hfetch⟩ := noticeFetch_delivers h
  obtain ⟨body, hbody⟩ := State.exists_noticeBody hpending
  refine ⟨s.deliver n, body, s.claim n claimed, rfl,
    exec_answer (.noticeFetch request) rfl rfl hs (hfetch.trans (State.fetch_eq hbody claimed)),
    ?engine, ?fault, ?link, ?capture, ?trigger, ?zone⟩
  case engine => rintro rfl; exact ⟨rfl, State.noticeBody_engine hbody⟩
  case fault => rintro rfl; exact ⟨rfl, State.noticeBody_fault hbody⟩
  case link => rintro rfl; cases hbody; exact ⟨rfl, rfl⟩
  case capture => rintro rfl; exact ⟨rfl, State.noticeBody_capture hbody⟩
  case trigger => rintro rfl; cases hbody; exact ⟨rfl, rfl⟩
  case zone => rintro z rfl; exact State.noticeBody_zone hbody

/-! ### NOTICE PEEK and NOTICE ACK (R167, R168) -/

theorem noticePeek_report (s : State) (n : Source) :
    (allSources.map (sourceReport s))[n.number.val]? = some (sourceReport s n) := by
  rw [List.getElem?_map, allSources_at_number, Option.map_some]

section
variable {s : State}

theorem noticeAck_undefined {b : Byte} (h : 13 ≤ b.toNat) : noticeAck (some b) s = refuse s .badField := by
  simp only [noticeAck, source?_eq_none h]

theorem noticeAck_not_in_service {n : Source} (h : ∀ e ∈ s.notices.inService, e.source ≠ n) :
    noticeAck (some (byteOf n.number)) s = refuse s .notInService := by
  have hnone : (s.notices.inService.find? fun e => decide (e.source = n)) = none :=
    List.find?_eq_none.mpr fun e he => by simpa using h e he
  simp only [noticeAck, source?_byteOf, hnone]

theorem noticeAck_empty (h : s.notices.inService = []) : noticeAck none s = refuse s .notInService := by
  simp only [noticeAck, h, lowestEntry]

variable {e : ServiceEntry} {before behind : List ServiceEntry} (hsplit : s.notices.inService = before ++ e :: behind)
include hsplit

/-- The entry of a named source, the first of its source, is removed. -/
theorem noticeAck_named (hfirst : ∀ f ∈ before, f.source ≠ e.source) :
    noticeAck (some (byteOf e.source.number)) s = s.acknowledge e (before ++ behind) := by
  have hnew : e ∉ before := fun he => hfirst e he rfl
  have hfind : (s.notices.inService.find? fun f => decide (f.source = e.source)) = some e :=
    hsplit ▸ find?_split _ before e behind (fun f hf => decide_eq_false (hfirst f hf)) (decide_eq_true rfl)
  simp only [noticeAck, source?_byteOf, hfind]
  rw [hsplit, List.erase_append_right _ hnew, List.erase_cons_head]

end

/-- The tail of a list has the lowest recorded priority where no entry before it has a lower one. -/
theorem lowestEntry_append_tail (before : List ServiceEntry) (e : ServiceEntry)
    (h : ∀ f ∈ before, e.priority ≤ f.priority) : lowestEntry (before ++ [e]) = some e := by
  induction before with
  | nil => rfl
  | cons f before ih =>
    obtain ⟨hf, hbefore⟩ := List.forall_mem_cons.mp h
    simp only [List.cons_append, lowestEntry, ih hbefore, if_pos hf]

/-- An ACK without a source removes the tail of a strictly nested list. -/
theorem noticeAck_tail {s : State} {e : ServiceEntry} {before : List ServiceEntry}
    (hsplit : s.notices.inService = before ++ [e]) (hlaw : InServiceLaw s) :
    noticeAck none s = s.acknowledge e before := by
  rw [InServiceLaw, hsplit, List.pairwise_append] at hlaw
  obtain ⟨-, -, habove⟩ := hlaw
  have hlower (f) (hf : f ∈ before) : e.priority < f.priority := (habove f hf e (List.mem_singleton_self e)).1
  have hnew : e ∉ before := fun he => lt_irrefl _ (hlower e he)
  simp only [noticeAck, hsplit, lowestEntry_append_tail before e fun f hf => (hlower f hf).le]
  rw [List.erase_append_right _ hnew, List.erase_cons_head, List.append_nil]

/-! ### Reading the operands of NOTICE SETUP (R169) -/

theorem source?_isSome_iff (b : Byte) : (source? b).isSome ↔ b.toNat ≤ 12 := by revert b; decide

theorem priority_defined (b : Byte) : (optionalField (index? 8) b).isSome ↔ b.toNat ≤ 7 ∨ b = 0xFF#8 := by revert b; decide

theorem priority_read {b : Byte} (h : b.toNat ≤ 7 ∨ b = 0xFF#8) :
    optionalField (index? 8) b = some (if h : b.toNat < 8 then some ⟨b.toNat, h⟩ else none) := by
  revert b; decide

theorem threshold_read {b : Byte} (h : b.toNat ≤ 8) :
    optionalField (index? 9) b = some (some ⟨b.toNat, Nat.lt_succ_of_le h⟩) := by
  revert b; decide

/-- A defined threshold is the byte's number, or leaves the old one where the byte is absent. -/
theorem threshold_defined {b : Byte} (h : b.toNat ≤ 8 ∨ b = 0xFF#8) (old : Fin 9) :
    ∃ t, optionalField (index? 9) b = some t ∧ (b.toNat ≤ 8 → (t.getD old).val = b.toNat)
      ∧ (b = 0xFF#8 → t.getD old = old) := by
  rcases h with hlow | rfl
  · refine ⟨_, threshold_read hlow, fun _ => rfl, ?_⟩
    rintro rfl
    exact absurd hlow (by decide)
  · exact ⟨none, rfl, fun hlow => absurd hlow (by decide), fun _ => rfl⟩

theorem threshold_undefined {b : Byte} (h : 9 ≤ b.toNat) (hpresent : b ≠ 0xFF#8) : optionalField (index? 9) b = none := by
  revert b; decide

theorem sourceChange?_eq_some {e : SourceEntry} {c : SourceChange} : sourceChange? e = some c ↔
    source? e.source = some c.source ∧ optionalField (index? 8) e.priority = some c.priority
      ∧ optionalField yesNo? e.mask = some c.masked := by
  obtain ⟨source, priority, masked⟩ := c
  unfold sourceChange?
  split
  · next hsource hpriority hmask => simp [hsource, hpriority, hmask]
  · next hnone =>
    exact iff_of_false nofun fun ⟨hsource, hpriority, hmask⟩ => hnone _ _ _ hsource hpriority hmask

theorem sourceChange?_isSome_iff (e : SourceEntry) : (sourceChange? e).isSome ↔ EntryDefined e := by
  rw [EntryDefined, ← source?_isSome_iff, ← priority_defined, ← yesNo_defined]
  simp only [Option.isSome_iff_exists, sourceChange?_eq_some]
  exact ⟨fun ⟨c, hsource, hpriority, hmask⟩ => ⟨⟨_, hsource⟩, ⟨_, hpriority⟩, ⟨_, hmask⟩⟩,
    fun ⟨⟨n, hsource⟩, ⟨p, hpriority⟩, ⟨m, hmask⟩⟩ => ⟨⟨n, p, m⟩, hsource, hpriority, hmask⟩⟩

theorem sourceChanges?_eq_some {entries : List SourceEntry} {cs : List SourceChange} :
    sourceChanges? entries = some cs ↔ List.Forall₂ (fun e c => sourceChange? e = some c) entries cs := by
  induction entries generalizing cs with
  | nil => simp [sourceChanges?, eq_comm]
  | cons e rest ih =>
    rw [List.forall₂_cons_left_iff, sourceChanges?]
    constructor
    · intro h
      split at h
      · next c ds hc hds => cases h; exact ⟨c, ds, hc, ih.mp hds, rfl⟩
      · cases h
    · rintro ⟨c, ds, hc, hds, rfl⟩
      simp only [hc, ih.mpr hds]

theorem sourceChanges?_defined {entries : List SourceEntry} (h : ∀ e ∈ entries, EntryDefined e) :
    ∃ cs, sourceChanges? entries = some cs := by
  induction entries with
  | nil => exact ⟨[], rfl⟩
  | cons e rest ih =>
    obtain ⟨he, hrest⟩ := List.forall_mem_cons.mp h
    obtain ⟨c, hc⟩ := Option.isSome_iff_exists.mp ((sourceChange?_isSome_iff e).mpr he)
    obtain ⟨cs, hcs⟩ := ih hrest
    exact ⟨c :: cs, by simp only [sourceChanges?, hc, hcs]⟩

section
variable {entries : List SourceEntry} {cs : List SourceChange} (h : sourceChanges? entries = some cs)
include h

theorem sourceChanges?_mem {e : SourceEntry} (he : e ∈ entries) : ∃ c ∈ cs, sourceChange? e = some c := by
  obtain ⟨i, hi, rfl⟩ := List.mem_iff_getElem.mp he
  have hall := sourceChanges?_eq_some.mp h
  exact ⟨cs[i]'(hall.length_eq ▸ hi), List.getElem_mem _, hall.get hi _⟩

/-- The entries name, byte for byte, the sources of the changes they stand for. -/
theorem sourceChanges?_sources : entries.map SourceEntry.source = cs.map fun c => byteOf c.source.number := by
  have hall := sourceChanges?_eq_some.mp h
  clear h
  induction hall with
  | nil => rfl
  | cons hc _ ih => rw [List.map_cons, List.map_cons, ih, source?_eq_some.mp (sourceChange?_eq_some.mp hc).1]

theorem sourceChanges?_nodup_iff : (cs.map SourceChange.source).Nodup ↔ (entries.map SourceEntry.source).Nodup := by
  rw [sourceChanges?_sources h, ← List.nodup_map_iff byteOf_number_injective, List.map_map]
  rfl

end

/-! ### The settings after NOTICE SETUP (R169) -/

/-- The setting of the change's source after it. -/
def SourceChange.onto (c : SourceChange) (old : SourceSetting) : SourceSetting :=
  { priority := c.priority.getD old.priority, masked := c.masked.getD old.masked }

theorem sourceChange?_onto {e : SourceEntry} {c : SourceChange} (h : sourceChange? e = some c) (old : SourceSetting) :
    c.onto old = settingAfter old e := by
  obtain ⟨-, hpriority, hmask⟩ := sourceChange?_eq_some.mp h
  obtain ⟨-, hnumber, hflag⟩ := (sourceChange?_isSome_iff e).mp (by simp [h])
  rw [priority_read hnumber, Option.some.injEq] at hpriority
  rw [yesNo_read e.mask hflag, Option.some.injEq] at hmask
  rw [SourceChange.onto, ← hpriority, ← hmask, settingAfter]
  congr 1
  · split <;> rfl
  · split <;> rfl

theorem applyChange_same (settings : Vector SourceSetting 13) (c : SourceChange) :
    (applyChange settings c)[c.source.number] = c.onto settings[c.source.number] := by
  simp [applyChange, SourceChange.onto]

theorem applyChange_other {settings : Vector SourceSetting 13} {c : SourceChange} {n : Source} (h : c.source ≠ n) :
    (applyChange settings c)[n.number] = settings[n.number] := by
  have hnumber : c.source.number.val ≠ n.number.val := fun heq => h (Source.number_injective (Fin.ext heq))
  simp [applyChange, hnumber]

theorem foldl_applyChange_other {cs : List SourceChange} {n : Source} (settings : Vector SourceSetting 13)
    (h : ∀ c ∈ cs, c.source ≠ n) : (cs.foldl applyChange settings)[n.number] = settings[n.number] := by
  induction cs generalizing settings with
  | nil => rfl
  | cons c cs ih =>
    obtain ⟨hc, hcs⟩ := List.forall_mem_cons.mp h
    rw [List.foldl_cons, ih _ hcs, applyChange_other hc]

/-- With no source named twice, each change has its effect on the setting as it was. -/
theorem foldl_applyChange_mem {cs : List SourceChange} {c : SourceChange} (settings : Vector SourceSetting 13)
    (hnodup : (cs.map SourceChange.source).Nodup) (hc : c ∈ cs) :
    (cs.foldl applyChange settings)[c.source.number] = c.onto settings[c.source.number] := by
  induction cs generalizing settings with
  | nil => cases hc
  | cons d cs ih =>
    rw [List.map_cons, List.nodup_cons] at hnodup
    obtain ⟨hd, hcs⟩ := hnodup
    have hother (f) (hf : f ∈ cs) : f.source ≠ d.source := fun heq => hd (heq ▸ List.mem_map_of_mem hf)
    rw [List.foldl_cons]
    rcases List.mem_cons.mp hc with rfl | hc
    · rw [foldl_applyChange_other _ hother, applyChange_same]
    · rw [ih _ hcs hc, applyChange_other (hother c hc).symm]

/-- The state that NOTICE SETUP makes. -/
def State.setUp (s : State) (threshold : Option (Fin 9)) (cs : List SourceChange) : State :=
  { s with notices := { s.notices with
      threshold := threshold.getD s.notices.threshold, settings := cs.foldl applyChange s.notices.settings } }

section
variable {s : State} {threshold : Byte} {entries : List SourceEntry}

theorem noticeSetup_refused (h : (9 ≤ threshold.toNat ∧ threshold ≠ 0xFF#8) ∨ (∃ e ∈ entries, ¬ EntryDefined e)
    ∨ ¬ (entries.map SourceEntry.source).Nodup) : noticeSetup threshold entries s = refuse s .badField := by
  unfold noticeSetup
  split
  · next t cs ht hcs =>
    refine if_neg fun hnodup => ?_
    rcases h with ⟨hhigh, hpresent⟩ | ⟨e, he, hundefined⟩ | htwice
    · rw [threshold_undefined hhigh hpresent] at ht; cases ht
    · obtain ⟨c, -, hc⟩ := sourceChanges?_mem hcs he
      exact hundefined ((sourceChange?_isSome_iff e).mp (by simp [hc]))
    · exact htwice ((sourceChanges?_nodup_iff hcs).mp hnodup)
  · rfl

variable {t : Option (Fin 9)} {cs : List SourceChange} (hcs : sourceChanges? entries = some cs)
include hcs

theorem State.setUp_setting_unnamed {n : Source} (hn : ∀ e ∈ entries, e.source ≠ byteOf n.number) :
    (s.setUp t cs).setting n = s.setting n := by
  refine foldl_applyChange_other _ fun c hc heq => ?_
  have hsource : byteOf c.source.number ∈ entries.map SourceEntry.source :=
    sourceChanges?_sources hcs ▸ List.mem_map_of_mem hc
  obtain ⟨e, he, hname⟩ := List.mem_map.mp hsource
  exact hn e he (heq ▸ hname)

variable (hnodup : (entries.map SourceEntry.source).Nodup)
include hnodup

theorem noticeSetup_accepted (ht : optionalField (index? 9) threshold = some t) :
    noticeSetup threshold entries s = accept (s.setUp t cs) (.noticeSetup (s.setUp t cs).notices.threshold
      (s.setUp t cs).notices.settings (s.setUp t cs).pick (s.setUp t cs).attn) := by
  simp only [noticeSetup, ht, hcs, if_pos ((sourceChanges?_nodup_iff hcs).mpr hnodup)]
  rfl

theorem State.setUp_setting_named {e : SourceEntry} {n : Source} (he : e ∈ entries) (hn : e.source = byteOf n.number) :
    (s.setUp t cs).setting n = settingAfter (s.setting n) e := by
  obtain ⟨c, hmem, hc⟩ := sourceChanges?_mem hcs he
  obtain rfl : n = c.source :=
    Option.some_injective _ ((source?_eq_some.mpr hn).symm.trans (sourceChange?_eq_some.mp hc).1)
  rw [← sourceChange?_onto hc]
  exact foldl_applyChange_mem _ ((sourceChanges?_nodup_iff hcs).mpr hnodup) hmem

end

/-- Settles O55: the peek, the acknowledgements by what they name, then the setup refused and taken. -/
theorem noticePeekAckSetup : Obligations.NoticePeekAckSetup := by
  refine fun q s hs => ⟨⟨_, exec_answer .noticePeek rfl rfl hs rfl, rfl, noticePeek_report s⟩,
    fun b hb => ?undefined, fun n hn => ?absent, fun hempty => ?empty, fun request e before behind hsplit h => ⟨_, rfl, ?removes⟩,
    fun threshold entries hlength => ⟨fun hbad => ?refused, fun hthreshold hentries hnodup => ?taken⟩⟩
  case undefined => exact exec_answer (.noticeAck (some b)) rfl rfl hs (noticeAck_undefined hb)
  case absent => exact exec_answer (.noticeAck (some (byteOf n.number))) rfl rfl hs (noticeAck_not_in_service hn)
  case empty => exact exec_answer (.noticeAck none) rfl rfl hs (noticeAck_empty hempty)
  case removes =>
    have hack : noticeAck request s = s.acknowledge e (before ++ behind) := by
      rcases h with ⟨rfl, hfirst⟩ | ⟨rfl, rfl, hlaw⟩
      · exact noticeAck_named hsplit hfirst
      · rw [List.append_nil]; exact noticeAck_tail hsplit hlaw
    exact exec_answer (.noticeAck request) rfl rfl hs hack
  case refused =>
    exact exec_answer (.noticeSetup threshold entries) rfl (decide_eq_true hlength) hs (noticeSetup_refused hbad)
  case taken =>
    obtain ⟨cs, hcs⟩ := sourceChanges?_defined hentries
    obtain ⟨t, ht, hpresent, habsent⟩ := threshold_defined hthreshold s.notices.threshold
    exact ⟨s.setUp t cs, exec_answer (.noticeSetup threshold entries) rfl (decide_eq_true hlength) hs
        (noticeSetup_accepted hcs hnodup ht), rfl, hpresent, habsent,
      fun n => ⟨fun e he hn => State.setUp_setting_named hcs hnodup he hn, fun hn => State.setUp_setting_unnamed hcs hn⟩⟩

end Sys2Proof.Machine
end

section
/-!
Engine reset (R181, R182): what stands while it is asserted, the rows that begin it, and the rows that release the part.
-/
namespace Sys2Proof.Machine

/-- Settles O1: a step takes the head of the queue. -/
theorem stepRunsFrontCommand : Obligations.StepRunsFrontCommand := fun _ _ _ => rfl

/-! ### While reset is asserted -/

theorem State.attn_inReset {s : State} {cause : ResetCause} (h : s.assertedReset = some cause) : s.attn = false := by
  rw [State.attn, h]; rfl

theorem State.txd_inReset {s : State} {cause : ResetCause} (h : s.assertedReset = some cause) : s.txd = true := by
  rw [State.txd, h]; rfl

theorem receiveByte_inReset {s : State} {cause : ResetCause} (h : s.assertedReset = some cause) (b : Byte) :
    receiveByte b .ends s = s.rxdIdle := by
  simp [receiveByte, h]

/-- Settles O5: the request rows, the two forms of RECEIVE_BYTE, then the two outputs. -/
theorem nothingReceivedInReset : Obligations.NothingReceivedInReset := fun s cause h =>
  ⟨fun _ _ _ hc => exec_inReset hc (by simp [h]), fun _ => rfl,
    fun b => congrArg Host.Outcome.next (receiveByte_inReset h b), s.attn_inReset h, s.txd_inReset h⟩

/-! ### The blocks as a reset begins -/

section
variable (s : State) (cause : ResetCause)

@[simp] theorem State.zone_beginReset (z : Fin 8) :
    (s.beginReset cause).zone z = Zone.reset (s.zone z).config.strap := by
  simp [State.beginReset, State.zone]

@[simp] theorem State.line_beginReset (n : Fin 4) : (s.beginReset cause).line n = Line.reset s.pins.trig[n] := by
  simp [State.beginReset, State.line]

@[simp] theorem State.generator_beginReset (g : Fin 4) : (s.beginReset cause).generator g = Generator.reset := by
  simp [State.beginReset, State.generator]

end

/-- A zone that stands at its reset values emits nothing. -/
theorem State.silent_of_reset {s : State} {z : Fin 8} {strap : StrapClass} (h : s.zone z = Zone.reset strap) :
    s.zout z = false ∧ s.loopback z = false := by
  simp [State.zout, State.loopback, h, Zone.reset, Zone.gateOpen, Zone.phase]

/-- A reset that begins in `u`, which has the straps and the rate of `s`, with the supply then at any level. -/
theorem State.beginReset_inReset (s : State) {u : State} (hbaud : u.port.baud = s.port.baud) (hzones : u.zones = s.zones)
    (cause : ResetCause) (supply : Supply) : InReset s { u.beginReset cause with supply := supply } cause where
  asserted := rfl
  counter := ⟨rfl, rfl⟩
  quiet := ⟨rfl, rfl, fun z => State.silent_of_reset (u.zone_beginReset cause z)⟩
  idlePort := ⟨rfl, rfl, rfl, rfl, hbaud⟩
  library := rfl
  zones z := by
    have hzone : u.zone z = s.zone z := by rw [State.zone, hzones]; rfl
    exact (u.zone_beginReset cause z).trans (by rw [hzone]; rfl)
  lines := u.line_beginReset cause
  arbiter := rfl
  generators := u.generator_beginReset cause
  capture := rfl
  latches := rfl

/-! ### The rows that begin a reset -/

theorem supplyRise_of_below {s : State} (h : s.supply = .below) :
    supplyRise s = { s.beginReset .power with supply := .rising } := if_pos h

theorem supplyFailure_of_present {s : State} (h : s.supply ≠ .below) :
    supplyFailure s = { s.beginReset .power with supply := .below } := if_neg h

theorem resetNLow_begins {s : State} (hsupply : s.supply = .stable) (hpin : s.pins.resetN = true) :
    resetNLow s = { s with pins := { s.pins with resetN := false } }.beginReset .pin := by
  simp [resetNLow, hsupply, hpin]

theorem resetNLow_moves {s : State} (h : s.supply ≠ .stable ∨ s.pins.resetN = false) :
    resetNLow s = { s with pins := { s.pins with resetN := false } } := by
  rcases h with h | h <;> simp [resetNLow, h]

/-- Settles O6, row by row: the reset that it begins, and when it begins none. -/
theorem resetBegins : Obligations.ResetBegins := by
  refine fun s => ⟨fun h => ⟨_, congrArg Host.Outcome.next (supplyRise_of_below h), ?rise⟩,
    fun h => congrArg Host.Outcome.next (if_neg h),
    fun hsupply hpin => ⟨_, congrArg Host.Outcome.next (resetNLow_begins hsupply hpin), ?low⟩,
    fun h => congrArg Host.Outcome.next (resetNLow_moves h),
    fun h => ⟨_, congrArg Host.Outcome.next (supplyFailure_of_present h), ?failure⟩,
    fun h => congrArg Host.Outcome.next (if_pos h)⟩
  case rise => exact ⟨s.beginReset_inReset rfl rfl .power .rising, rfl, rfl, rfl, rfl, rfl⟩
  case low =>
    exact ⟨s.beginReset_inReset (u := { s with pins := { s.pins with resetN := false } }) rfl rfl .pin s.supply,
      rfl, rfl, rfl, rfl, rfl⟩
  case failure => exact ⟨s.beginReset_inReset rfl rfl .power .below, rfl, rfl, rfl, rfl, rfl⟩

/-! ### The rows that release the part -/

theorem State.release?_eq {s : State} {cause : ResetCause} (h : s.assertedReset = some cause) :
    s.release? = { State.released s.pins cause s.freeCount s.pending with supply := s.supply } := by
  rw [State.release?, h]

/-- With the supply stable the released part is that of R181. -/
theorem State.release?_stable {s : State} {cause : ResetCause} (h : s.assertedReset = some cause) (hsupply : s.supply = .stable) :
    s.release? = State.released s.pins cause s.freeCount s.pending := by
  rw [State.release?_eq h, hsupply]; rfl

section
variable {s : State} {cause : ResetCause}

theorem resetNHigh_moves (h : s.supply ≠ .stable ∨ s.pins.resetN = true) :
    resetNHigh s = { s with pins := { s.pins with resetN := true } } := by
  rcases h with h | h <;> simp [resetNHigh, h]

theorem supplyStable_held (hsupply : s.supply = .rising) (hpin : s.pins.resetN = false) :
    supplyStable s = { s with supply := .stable } := by
  simp [supplyStable, hsupply, hpin]

variable (hreset : s.assertedReset = some cause)
include hreset

theorem resetNHigh_releases (hsupply : s.supply = .stable) (hpin : s.pins.resetN = false) :
    resetNHigh s = State.released { s.pins with resetN := true } cause s.freeCount s.pending := by
  rw [← State.release?_stable (s := { s with pins := { s.pins with resetN := true } }) hreset hsupply]
  simp [resetNHigh, hsupply, hpin]

theorem supplyStable_releases (hsupply : s.supply = .rising) (hpin : s.pins.resetN = true) :
    supplyStable s = State.released s.pins cause s.freeCount s.pending := by
  rw [← State.release?_stable (s := { s with supply := .stable }) hreset rfl]
  simp [supplyStable, hsupply, hpin]

theorem requestResetExpiry_other (h : cause ≠ .request) : requestResetExpiry s = s :=
  if_neg fun heq => h (Option.some_injective _ (hreset.symm.trans heq))

end

theorem requestResetExpiry_releases {s : State} (h : s.assertedReset = some .request) : requestResetExpiry s =
    { State.released s.pins .request s.freeCount s.pending with supply := s.supply } :=
  (if_pos h).trans (State.release?_eq (s := s.advance Config.requestResetTicks) h)

/-- Settles O7, row by row: the release, and when the row moves its level alone or nothing. -/
theorem resetReleases : Obligations.ResetReleases := fun _ _ hreset =>
  ⟨fun hsupply hpin => congrArg Host.Outcome.next (resetNHigh_releases hreset hsupply hpin),
    fun h => congrArg Host.Outcome.next (resetNHigh_moves h),
    fun hsupply hpin => congrArg Host.Outcome.next (supplyStable_releases hreset hsupply hpin),
    fun hsupply hpin => congrArg Host.Outcome.next (supplyStable_held hsupply hpin),
    fun h => congrArg Host.Outcome.next (if_neg h),
    fun h => congrArg Host.Outcome.next (requestResetExpiry_releases (h ▸ hreset)),
    fun h => congrArg Host.Outcome.next (requestResetExpiry_other hreset h)⟩

/-! ### ENGINE RESET (R182) -/

theorem Handling.resets_iff (h : Handling) : h.resets = true ↔ h.code = 0x02#8 ∧ h.reply.status = .ok := by
  rw [Handling.resets, Bool.and_eq_true, decide_eq_true_iff, decide_eq_true_iff, engineResetCode]

theorem replySent_resets {s : State} {h : Handling} (hsent : s.port.handling = some h) (hreset : h.resets = true) :
    replySent s = (s.advance h.endsAt).beginReset .request := by
  simp only [replySent, hsent, if_pos hreset]

/-- Settles O8: the answer, then the reset that begins when it has been sent. -/
theorem engineResetRequest : Obligations.EngineResetRequest := by
  refine ⟨fun q s hs => exec_answer .engineReset rfl rfl hs rfl, fun s h hsent hcode hstatus => ⟨_, congrArg Host.Outcome.next
    (replySent_resets hsent (h.resets_iff.mpr ⟨hcode, hstatus⟩)), ?_⟩⟩
  exact ⟨s.beginReset_inReset rfl rfl .request s.supply, rfl, rfl, rfl, rfl, rfl⟩

end Sys2Proof.Machine
end

section
/-!
Requests on the link (R172, R178, R179): every request is read back from its body, and what an owner may make of it.
-/
namespace Sys2Proof.Machine

/-! ### What is written is read -/

theorem halfOf_bytes (h : Half) : halfOf (lowByte h) (highByte h) = h := by
  rw [halfOf, lowByte, highByte, BitVec.extractLsb'_append_extractLsb'_eq_extractLsb' (by rfl)]
  exact BitVec.extractLsb'_eq_self

theorem wordOf_bytes (w : Word) : wordOf (lowByte (w.extractLsb' 0 16)) (highByte (w.extractLsb' 0 16))
    (lowByte (w.extractLsb' 16 16)) (highByte (w.extractLsb' 16 16)) = w := by
  rw [wordOf, halfOf_bytes, halfOf_bytes, BitVec.extractLsb'_append_extractLsb'_eq_extractLsb' (by rfl)]
  exact BitVec.extractLsb'_eq_self

theorem readElements_bytes (es : List ElementRecord) : readElements (es.flatMap elementBytes) = some es := by
  induction es with
  | nil => rfl
  | cons e es ih => simp [elementBytes, halfBytes, readElements, ih, halfOf_bytes]

theorem readEntries_bytes (es : List SourceEntry) :
    readEntries (es.flatMap fun e => [e.source, e.priority, e.mask]) = some es := by
  induction es with
  | nil => rfl
  | cons e es ih => simp [readEntries, ih]

theorem readHeader_bytes (h : TemplateHeader) : readHeader (headerBytes h) = some h := by
  simp [headerBytes, halfBytes, wordBytes, readHeader, halfOf_bytes, wordOf_bytes]

theorem readJob_bytes (r : JobSubmitRecord) : readJob (jobBytes r) = some r := by
  simp [jobBytes, halfBytes, readJob, halfOf_bytes]

theorem readBinding_bytes (b : BindingRecord) : readBinding (bindingBytes b) = some b := by
  simp [bindingBytes, halfBytes, readBinding, halfOf_bytes]

theorem readPlan_bytes (length : Half) (masks : Vector Half 8) :
    readPlan (halfBytes length ++ masks.toList.flatMap halfBytes) = some (.slotPlan length masks) := by
  obtain ⟨⟨ms⟩, hms⟩ := masks
  match ms, hms with
  | [_, _, _, _, _, _, _, _], _ => simp [halfBytes, readPlan, halfOf_bytes]

theorem parsedOf_some {r : Request} (h : r.lengthOk = true) : parsedOf (some r) = .request r := if_pos h

theorem parseFields_requestFields {r : Request} (h : r.lengthOk = true) :
    parseFields (requestCode r) (requestFields r) = .request r := by
  rw [← parsedOf_some h]
  cases r with
  | templateBegin i header => exact congrArg (fun x => parsedOf (x.map (.templateBegin i))) (readHeader_bytes header)
  | templateAppend sel es => exact congrArg (fun x => parsedOf (x.map (.templateAppend sel))) (readElements_bytes es)
  | jobSubmit record => exact congrArg (fun x => parsedOf (x.map .jobSubmit)) (readJob_bytes record)
  | noticeSetup threshold es => exact congrArg (fun x => parsedOf (x.map (.noticeSetup threshold))) (readEntries_bytes es)
  | slotPlan length masks => exact congrArg parsedOf (readPlan_bytes length masks)
  | triggerBind line binding =>
    cases binding with
    | none => rfl
    | some b => exact congrArg (fun x => parsedOf (x.map fun b => .triggerBind line (some b))) (readBinding_bytes b)
  | jobRelease zone tag => exact congrArg (fun t => parsedOf (some (.jobRelease zone t))) (halfOf_bytes tag)
  | jobCancel zone tag mode => exact congrArg (fun t => parsedOf (some (.jobCancel zone t mode))) (halfOf_bytes tag)
  | captureRead offset count => exact congrArg (fun o => parsedOf (some (.captureRead o count))) (halfOf_bytes offset)
  | captureArm source zone timeout gap most =>
    simp [requestCode, requestFields, parseFields, halfBytes, halfOf_bytes]
  | noticeFetch source => cases source <;> rfl
  | noticeAck source => cases source <;> rfl
  | _ => rfl

theorem payloadBytes_le (length : Byte) : payloadBytes length ≤ 32 := by
  have := length.isLt
  rw [payloadBytes]
  omega

/-- The field bytes of a request fit the body of a frame. -/
theorem requestFields_length_le {r : Request} (h : r.lengthOk = true) : (requestFields r).length ≤ 62 := by
  cases r with
  | templateAppend sel es =>
    simp only [Request.lengthOk, decide_eq_true_eq] at h
    simp [requestFields, List.length_flatMap, elementBytes_length]
    omega
  | noticeSetup threshold es =>
    simp only [Request.lengthOk, decide_eq_true_eq] at h
    simp [requestFields, List.length_flatMap]
    omega
  | jobSubmit record =>
    simp only [Request.lengthOk, decide_eq_true_eq] at h
    have hbytes := payloadBytes_le record.payloadLength
    simp [requestFields, jobBytes, halfBytes_length, h]
    omega
  | triggerBind line binding =>
    cases binding with
    | none => simp [requestFields]
    | some b =>
      simp only [Request.lengthOk, decide_eq_true_eq] at h
      have hbytes := payloadBytes_le b.payloadLength
      simp [requestFields, bindingBytes, halfBytes_length, h]
      omega
  | slotPlan length masks => simp [requestFields, halfBytes_length, List.length_flatMap]
  | templateBegin i header => simp [requestFields, headerBytes_length]
  | noticeFetch source => cases source <;> simp [requestFields]
  | noticeAck source => cases source <;> simp [requestFields]
  | _ => simp [requestFields, halfBytes_length]

/-- Settles O13: the fields are read back, and the body is code and sequence number with at most 62 field bytes. -/
theorem requestBodyReadsBack : Obligations.RequestBodyReadsBack := by
  intro q r h
  have hfields := requestFields_length_le h
  refine ⟨parseFields_requestFields h, ?_⟩
  simp only [requestBody, List.length_cons]
  omega

/-! ### What an owner answers (R179) -/

/-- The lists of a reply that no law of the part bounds are as short as their rules make them: the characters of R180, 24
entries of a read (R153), 16 fault pairs (R158). -/
def ReplyFields.Sized : ReplyFields → Prop
  | .identify r => r.vendor.length + r.part.length ≤ 11
  | .captureRead _ entries => entries.length ≤ 24
  | .notice _ (.fault pairs) => pairs.length ≤ 16
  | _ => True

theorem ReplyFields.Short.sized {fields : ReplyFields} (h : fields.Short) : fields.Sized := by
  unfold ReplyFields.Sized
  split
  · exact h
  · exact h
  · exact h
  · trivial

/-- What an owner may make of a request: a refusal, of the state as it was, or a state it accepts. -/
inductive Answer.Judged (s : State) : Answer → Prop
  | refused (status : Status) (fields : ReplyFields) : fields.Sized → Judged s (refuseWith s status fields)
  | accepted (t : State) (fields : ReplyFields) : fields.Sized → Judged s (accept t fields)

namespace Answer.Judged

theorem unchanged {s : State} {a : Answer} (h : Judged s a) (hstatus : a.status ≠ .ok) : a.state = s := by
  cases h with
  | refused => rfl
  | accepted => exact absurd rfl hstatus

theorem sized {s : State} {a : Answer} (h : Judged s a) : a.fields.Sized := by
  cases h with
  | refused _ _ hsized => exact hsized
  | accepted _ _ hsized => exact hsized

theorem refuse (s : State) (status : Status) : Judged s (refuse s status) := .refused _ _ trivial

theorem releaseLate (s : State) (z : Fin 8) (tag : Half) : Judged s (s.releaseLate z tag) := by
  fun_cases State.releaseLate s z tag <;> constructor <;> trivial

theorem releaseAgain (s : State) (z : Fin 8) (tag : Half) : Judged s (s.releaseAgain z tag) := by
  fun_cases State.releaseAgain s z tag
  case case5 => exact releaseLate ..  -- no live job carries the tag
  all_goals constructor; trivial

theorem release (s : State) (z : Fin 8) (tag : Half) : Judged s (s.release z tag) := by
  fun_cases State.release s z tag
  case case4 => exact releaseAgain ..  -- the tag names nothing that can be released
  all_goals constructor; trivial

theorem cancelActive (s : State) (z : Fin 8) (a : ActiveJob) (mode : CancelMode) : Judged s (s.cancelActive z a mode) := by
  fun_cases State.cancelActive s z a mode <;> constructor <;> trivial

theorem fetch (s : State) (n : Source) (claimed : Bool) : Judged s (s.fetch n claimed) := by
  have hsized := (short_fetch s n claimed).sized
  revert hsized
  fun_cases State.fetch s n claimed
  · exact .refused _ _
  · exact .accepted _ _

end Answer.Judged

theorem answer_judged (r : Request) (s : State) : Answer.Judged s (answer r s) := by
  cases r <;> dsimp only [answer]
  case templateBegin i h => fun_cases templateBegin i h s <;> constructor <;> trivial
  case templateAppend sel es => fun_cases templateAppend sel es s <;> constructor <;> trivial
  case templateCommit => fun_cases templateCommit s <;> constructor <;> trivial
  case templateAbandon => fun_cases templateAbandon s <;> constructor <;> trivial
  case templateDelete i => fun_cases templateDelete i s <;> constructor <;> trivial
  case templateQuery i o => fun_cases templateQuery i o s <;> constructor <;> trivial
  case zoneSetup z e b g d => fun_cases zoneSetup z e b g d s <;> constructor <;> trivial
  case zoneQuery z => fun_cases zoneQuery z s <;> constructor <;> trivial
  case zoneReset z => fun_cases zoneReset z s <;> constructor <;> trivial
  case faultClear z => fun_cases faultClear z s <;> constructor <;> trivial
  case jobSubmit record => fun_cases jobSubmit record s <;> constructor <;> trivial
  case jobRelease z tag =>
    fun_cases jobRelease z tag s
    · exact .refuse _ _
    · exact .release ..
  case jobCancel z tag mode =>
    fun_cases jobCancel z tag mode s
    case case3 => exact .cancelActive ..  -- the tag is the active job's
    all_goals constructor; trivial
  case zoneFlush z a => fun_cases zoneFlush z a s <;> constructor <;> trivial
  case completionTake z => fun_cases completionTake z s <;> constructor <;> trivial
  case slotPlan l ms => fun_cases slotPlan l ms s <;> constructor <;> trivial
  case slotQuery sel => fun_cases slotQuery sel s <;> constructor <;> trivial
  case triggerBind n b => fun_cases triggerBind n b s <;> constructor <;> trivial
  case triggerQuery n => fun_cases triggerQuery n s <;> constructor <;> trivial
  case captureArm src z t g m => fun_cases captureArm src z t g m s <;> constructor <;> trivial
  case captureRead o c =>
    fun_cases captureRead o c s
    case case3 hcount _ _ _ =>
      exact .accepted _ _ (by simp only [ReplyFields.Sized, List.length_take]; omega)
    all_goals constructor; trivial
  case noticeFetch n =>
    fun_cases noticeFetch n s
    case case2 => exact .fetch ..  -- the pick
    case case4 => exact .fetch ..  -- the named source
    all_goals constructor; trivial
  case noticeAck n => fun_cases noticeAck n s <;> constructor <;> trivial
  case noticeSetup t es => fun_cases noticeSetup t es s <;> constructor <;> trivial
  case identify => exact .accepted _ _ (Nat.le_refl 11)
  all_goals exact .accepted _ _ trivial

/-- Settles O14: an answer that is not OK is a refusal. -/
theorem refusalChangesNothing : Obligations.RefusalChangesNothing := fun r s h =>
  (answer_judged r s).unchanged h

end Sys2Proof.Machine
end

section
/-!
Replies on the line (R171, R172, R177): the bytes of a reply's frame, how long the frame lasts, and the level of TXD.
-/
namespace Sys2Proof.Machine

/-! ### The field bytes of a reply (R172; logs 6 and 7) -/

theorem fieldBytes_length_le (fields : ReplyFields) (n : Nat) : (fieldBytes fields n).length ≤ 61 :=
  List.length_take_le _ _

/-- Parts that are all stated are their bytes, whatever the free bytes are. -/
theorem partsBytes_of_stated {parts : List Part} (h : parts.all Part.isStated = true) (n place room : Nat) :
    partsBytes n place room parts = statedOf parts := by
  induction parts generalizing place with
  | nil => rfl
  | cons p parts ih =>
    rw [List.all_cons, Bool.and_eq_true] at h
    cases p with
    | stated bs => exact congrArg (bs ++ ·) (ih h.2 (place + 1))
    | unstated v => exact absurd h.1 Bool.false_ne_true

theorem statedBytes_eq_some {fields : ReplyFields} {b : List Byte} :
    statedBytes fields = some b ↔ (replyParts fields).all Part.isStated = true ∧ statedOf (replyParts fields) = b :=
  Option.ite_none_right_eq_some.trans (and_congr_right fun _ => Option.some_inj)

/-- The lists that the laws bound stand beside a part of unstated width: a reply without one has short lists. -/
theorem ReplyFields.Sized.short {fields : ReplyFields} (h : fields.Sized)
    (hstated : (replyParts fields).all Part.isStated = true) : fields.Short := by
  cases fields with
  | identify | captureRead => exact h
  | notice header body => cases body <;> exact h
  | templateQuery | zoneQuery | zoneReset | zoneFlush | slotQuery | triggerQuery | noticePeek =>
    simp [replyParts, templateParts, zoneParts, tagParts, slotParts, lineParts, sourcesPart, Part.isStated, Part.number,
      Part.set] at hstated
  | _ => trivial

/-- Where every part of an answer is stated its fields are the stated bytes. -/
theorem fieldBytes_of_stated {fields : ReplyFields} (hsized : fields.Sized) {b : List Byte}
    (h : statedBytes fields = some b) (n : Nat) : fieldBytes fields n = b := by
  obtain ⟨hstated, hbytes⟩ := statedBytes_eq_some.mp h
  rw [fieldBytes_eq (statedSize_le (hsized.short hstated)), partsBytes_of_stated hstated, hbytes]

/-- The fields of a TEMPLATE QUERY reply begin with the header record, whose 21 bytes the cut at 61 leaves whole. -/
theorem headerBytes_begins_fieldBytes (r : TemplateReport) (n : Nat) :
    headerBytes r.header <+: fieldBytes (.templateQuery r) n := by
  have hwhole : (headerBytes r.header).take mostFieldBytes = headerBytes r.header := rfl
  rw [← hwhole]
  exact List.IsPrefix.take ⟨_, rfl⟩ mostFieldBytes

/-! ### The frame (Tables 11-1 and 11-2) -/

theorem frameOf_checked (body : List Byte) :
    (frameOf body).tail.take (body.length + 1) = BitVec.ofNat 8 body.length :: body := by
  simp [frameOf]

theorem replyBody_length (r : Reply) (n : Nat) : (replyBody r n).length = 3 + (fieldBytes r.fields n).length := by
  simp [replyBody]; omega

/-- The frame of a reply: its check sequence covers the length byte and the body. -/
theorem frameOf_replyBody (r : Reply) (n : Nat) : frameOf (replyBody r n) =
    [0xC3#8, BitVec.ofNat 8 (3 + (fieldBytes r.fields n).length), r.code, r.seq, statusByte r.status] ++ fieldBytes r.fields n
      ++ [highByte (crcOf ((frameOf (replyBody r n)).tail.take (4 + (fieldBytes r.fields n).length))),
        lowByte (crcOf ((frameOf (replyBody r n)).tail.take (4 + (fieldBytes r.fields n).length)))] := by
  have hcovered : 4 + (fieldBytes r.fields n).length = (replyBody r n).length + 1 := by rw [replyBody_length]; omega
  rw [hcovered, frameOf_checked, ← replyBody_length]
  simp [frameOf, replyBody]

/-- A frame lasts as long as its bits, up to one tick more. -/
theorem lineTicks_slow (bytes : Nat) :
    bytes * 10 * 625 ≤ lineTicks false bytes * 9 ∧ lineTicks false bytes * 9 < bytes * 10 * 625 + 9 := by
  simp only [lineTicks, Bool.false_eq_true, if_false]; omega

theorem lineTicks_fast (bytes : Nat) :
    bytes * 10 * 625 ≤ lineTicks true bytes * 36 ∧ lineTicks true bytes * 36 < bytes * 10 * 625 + 36 := by
  simp only [lineTicks, if_true]; omega

section
variable (s : State) (code : Byte) (r : Reply)

theorem State.handlingOf_lasts : (s.handlingOf code r).endsAt - s.ticks
    = lineTicks s.port.baud (s.handlingOf code r).frame.length := Nat.add_sub_cancel_left ..

theorem State.handlingOf_slow (h : s.port.baud = false) :
    (s.handlingOf code r).frame.length * 10 * 625 ≤ ((s.handlingOf code r).endsAt - s.ticks) * 9
      ∧ ((s.handlingOf code r).endsAt - s.ticks) * 9 < (s.handlingOf code r).frame.length * 10 * 625 + 9 := by
  rw [State.handlingOf_lasts, h]; exact lineTicks_slow _

theorem State.handlingOf_fast (h : s.port.baud = true) :
    (s.handlingOf code r).frame.length * 10 * 625 ≤ ((s.handlingOf code r).endsAt - s.ticks) * 36
      ∧ ((s.handlingOf code r).endsAt - s.ticks) * 36 < (s.handlingOf code r).frame.length * 10 * 625 + 36 := by
  rw [State.handlingOf_lasts, h]; exact lineTicks_fast _

end

/-! ### TXD (R171) -/

theorem State.txd_idle {s : State} (h : s.port.handling = none) : s.txd = true := by
  simp [State.txd, h]

theorem State.txd_sending {s : State} {h : Handling} (hreset : s.assertedReset = none) (hsent : s.port.handling = some h) :
    s.txd = lineBit h.frame (bitAt s.port.baud (s.ticks - h.startsAt)) := by
  simp [State.txd, hreset, hsent]

/-- The bit that stands at an instant: `per` bits take 625 ticks. -/
theorem bitAt_eq {fast : Bool} {elapsed bits : Nat} (hfrom : bits * 625 ≤ elapsed * (if fast = true then 36 else 9))
    (hto : elapsed * (if fast = true then 36 else 9) < (bits + 1) * 625) : bitAt fast elapsed = bits := by
  have : bitAt fast elapsed = elapsed * (if fast = true then 36 else 9) / 625 := by cases fast <;> rfl
  omega

theorem lineBit_rest {frame : List Byte} {bit : Nat} (h : frame.length * 10 ≤ bit) : lineBit frame bit = true := by
  rw [lineBit, List.getElem?_eq_none (by omega)]

theorem lineBit_byte {frame : List Byte} {k j : Nat} {b : Byte} (hj : j < 10) (h : frame[k]? = some b) :
    lineBit frame (k * 10 + j) = if j = 0 then false else if j = 9 then true else b.getLsbD (j - 1) := by
  have hbyte : (k * 10 + j) / 10 = k := by omega
  have hbit : (k * 10 + j) % 10 = j := by omega
  simp only [lineBit, hbyte, hbit, h]
  split
  · rfl
  · by_cases hstop : j = 9
    · simp [hstop]
    · rw [if_neg hstop, if_pos (by omega)]

/-! ### Requests that no frame of R178 carries -/

/-- The request that a command brings has accepted lengths where the command is well formed. -/
theorem wellFormed_eq {c : Instr} {q : Byte} {r : Request} (h : requestOf c = some (q, r)) : c.wellFormed = r.lengthOk := by
  cases c <;> cases h <;> rfl

theorem State.handle_badLength {r : Request} (h : r.lengthOk = false) (s : State) (q : Byte) :
    s.handle q r = s.replying (requestCode r) q .badLength .none := by
  simp [State.handle, h, State.replying, replyCode_requestCode]

theorem State.request_free {s : State} (h : s.ready) (q : Byte) (r : Request) : s.request q r = s.handle q r := by
  obtain ⟨hreset, hhandling, hbuffer⟩ := h
  simp [State.request, hreset, hhandling, hbuffer]

/-! ### The reply to a request -/

/-- The reply record that answers a request on the line. -/
def Answer.reply (a : Answer) (r : Request) (q : Byte) : Reply :=
  { code := requestCode r + 0x80#8, seq := q, status := a.status, fields := a.fields }

/-- Settles O9: the frame of an answer, the lists of a wrong length, then the line bit by bit. -/
theorem requestIsAnsweredByFrame : Obligations.RequestIsAnsweredByFrame := by
  refine ⟨fun c q r s hc hformed hs => ?answered, fun c q r s hc hformed hs => ?refused,
    fun s => ⟨State.txd_idle, fun h bits per hreset hsent hper hfrom hto => ?line⟩⟩
  case answered =>
    have hlengths : r.lengthOk = true := wellFormed_eq hc ▸ hformed
    have hticks := (outside_answer r s).ticks
    have hport := (outside_answer r s).port
    have hsized := (answer_judged r s).sized
    generalize ha : answer r s = a at *
    refine ⟨a.state.replying (requestCode r) q a.status a.fields, a.state.handlingOf (requestCode r) (a.reply r q),
      fieldBytes a.fields a.state.freeCount, exec_answer r hc hlengths hs ha, by rw [← hport]; rfl, rfl, rfl, rfl,
      frameOf_replyBody _ _, ?room, hticks, hticks, fun b hb => fieldBytes_of_stated hsized hb _, ?header,
      fun hbaud => a.state.handlingOf_slow _ _ (by rw [hport, hbaud]),
      fun hbaud => a.state.handlingOf_fast _ _ (by rw [hport, hbaud])⟩
    case room => have := fieldBytes_length_le a.fields a.state.freeCount; omega
    case header => intro x hx; rw [show a.fields = .templateQuery x from hx]; exact headerBytes_begins_fieldBytes x _
  case refused =>
    rw [exec_request hc, State.request_free hs, State.handle_badLength (wellFormed_eq hc ▸ hformed)]
  case line =>
    subst hper
    rw [State.txd_sending hreset hsent, bitAt_eq hfrom hto]
    refine ⟨lineBit_rest, ?_⟩
    rintro k j b rfl hj hb
    exact lineBit_byte hj hb

end Sys2Proof.Machine
end

section
/-!
The request buffer, REPLY_SENT and the frame assembler (R173 to R178): how a body that the port takes is handed over or
refused, what waits or is lost, and what each character on RXD does.
-/
namespace Sys2Proof.Machine

/-! ### Handing over a body (R177, R178) -/

theorem replyCode_eq (code : Byte) : replyCode code = if code.toNat < 128 then code + 0x80#8 else code := by
  have hle : 0x80#8 ≤ code ↔ ¬ code.toNat < 128 := by rw [BitVec.le_def]; exact not_lt.symm
  rw [replyCode, if_congr hle rfl rfl, ite_not]

/-- The part sends the port's own refusal of a body (R178). -/
def State.refusing (s : State) (code seq : Byte) (status : Status) : State :=
  s.startReply code
    { code := if code.toNat < 128 then code + 0x80#8 else code, seq := seq, status := status, fields := .none }

section
variable {s : State} {q : Byte} {r : Request}

theorem State.handle_lengthOk (h : r.lengthOk = true) :
    s.handle q r = (answer r s).state.replying (requestCode r) q (answer r s).status (answer r s).fields := by
  simp [State.handle, h, State.replying, replyCode_requestCode]

theorem State.handleBody_requestBody (h : r.lengthOk = true) : s.handleBody (requestBody q r) = s.handle q r := by
  simp only [State.handleBody, requestBody, parseFields_requestFields h]

theorem State.handleBody_unread {code : Byte} {f : List Byte} {status : Status} (h : UnreadBody code f status) :
    s.handleBody (code :: q :: f) = s.refusing code q status := by
  rw [State.refusing, ← replyCode_eq]
  rcases parseFields_unread h with ⟨rfl, hparse⟩ | ⟨rfl, hparse⟩ <;> simp only [State.handleBody, hparse]

/-! ### The buffer (R176, R177) -/

theorem State.takeRequest_nil (h : s.port.buffer = []) : s.takeRequest = s := by
  simp [State.takeRequest, h]

theorem State.takeRequest_cons {body : List Byte} {rest : List (List Byte)} (hfree : s.port.handling = none)
    (h : s.port.buffer = body :: rest) : s.takeRequest = (s.setBuffer rest).handleBody body := by
  simp [State.takeRequest, hfree, h]

theorem State.takeRequest_busy (h : s.port.handling.isSome = true) : s.takeRequest = s := if_pos h

section
variable {body : List Byte}

theorem State.offer_busy (hbusy : s.port.handling.isSome = true) (hroom : s.port.buffer.length < 4) :
    s.offer body = s.setBuffer (s.port.buffer ++ [body]) :=
  (if_pos hroom).trans (State.takeRequest_busy hbusy)

theorem State.offer_full (h : 4 ≤ s.port.buffer.length) : s.offer body = s.latchLink .overrun := if_neg (not_lt.mpr h)

theorem State.offer_free (hfree : s.port.handling = none) (hempty : s.port.buffer = []) :
    s.offer body = s.handleBody body := by
  have hbuffer : (s.setBuffer (s.port.buffer ++ [body])).setBuffer [] = s := by rw [← hempty]; rfl
  have htake : (s.setBuffer (s.port.buffer ++ [body])).takeRequest
      = ((s.setBuffer (s.port.buffer ++ [body])).setBuffer []).handleBody body :=
    State.takeRequest_cons hfree (by simp [State.setBuffer, hempty])
  rw [State.offer, if_pos (by simp [hempty]), htake, hbuffer]

end

/-- A request row brings the port the body of its frame. -/
theorem State.request_eq_offer (hreset : s.assertedReset = none) (hl : r.lengthOk = true) :
    s.request q r = s.offer (requestBody q r) := by
  by_cases hfree : s.port.handling = none ∧ s.port.buffer = []
  · obtain ⟨hhandling, hempty⟩ := hfree
    rw [State.request_free ⟨hreset, hhandling, hempty⟩, State.offer_free hhandling hempty, State.handleBody_requestBody hl]
  · simp [State.request, hreset, hfree]

end

/-- Settles O10: a busy port offers the frame to the buffer, which has room or is full. -/
theorem busyPortBuffersRequest : Obligations.BusyPortBuffersRequest := by
  intro c q r s h hc hreset hsent
  have hbusy : s.port.handling.isSome = true := by rw [hsent]; rfl
  rw [exec_busy hc hreset hbusy]
  exact ⟨fun hroom => congrArg Host.Outcome.next (State.offer_busy hbusy hroom),
    fun hfull => congrArg Host.Outcome.next (State.offer_full hfull)⟩

/-! ### REPLY_SENT (R177) -/

/-- The part when the handling of a request has ended, with these frames left in the buffer. -/
def State.replied (s : State) (now : Nat) (rest : List (List Byte)) : State :=
  { s with ticks := now, port := { s.port with handling := none, buffer := rest } }

theorem replySent_stopped {s : State} (h : s.port.handling = none) : replySent s = s := by
  simp only [replySent, h]

section
variable {s : State} {h : Handling} (hsent : s.port.handling = some h) (hstays : ¬ (h.code = 0x02#8 ∧ h.reply.status = .ok))
include hsent hstays

theorem replySent_takes : replySent s = ((s.advance h.endsAt).idlePort).takeRequest := by
  simp only [replySent, hsent, if_neg (mt h.resets_iff.mp hstays)]

theorem replySent_nil (hempty : s.port.buffer = []) :
    replySent s = { s with ticks := max s.ticks h.endsAt, port := { s.port with handling := none } } :=
  (replySent_takes hsent hstays).trans (State.takeRequest_nil hempty)

theorem replySent_cons {body : List Byte} {rest : List (List Byte)} (hbuffer : s.port.buffer = body :: rest) :
    replySent s = (s.replied (max s.ticks h.endsAt) rest).handleBody body :=
  (replySent_takes hsent hstays).trans (State.takeRequest_cons rfl hbuffer)

end

/-- Settles O12: no reply, an empty buffer, then a head that is read and one that is not. -/
theorem replySentTakesNextRequest : Obligations.ReplySentTakesNextRequest := by
  refine ⟨fun s h => congrArg Host.Outcome.next (replySent_stopped h), fun s h hsent hstays => ⟨_, rfl,
    fun hempty => congrArg Host.Outcome.next (replySent_nil hsent hstays hempty), fun q r rest hl hbuffer => ⟨_, rfl, ?read⟩,
    fun code q f rest status hunread hbuffer => ⟨_, rfl, ?unread⟩⟩⟩
  case read =>
    exact congrArg Host.Outcome.next ((replySent_cons hsent hstays hbuffer).trans
      ((State.handleBody_requestBody hl).trans (State.handle_lengthOk hl)))
  case unread =>
    exact congrArg Host.Outcome.next ((replySent_cons hsent hstays hbuffer).trans (State.handleBody_unread hunread))

/-! ### What a body leaves of the assembler -/

/-- The two ports differ at most in the request in handling and the buffer. -/
def Port.SameAssembler (p q : Port) : Prop := ∃ handling buffer, p = { q with handling := handling, buffer := buffer }

section
variable (s : State)

theorem State.handle_sameAssembler (q : Byte) (r : Request) : (s.handle q r).port.SameAssembler s.port := by
  unfold State.handle
  split
  · exact ⟨_, _, by rw [← (outside_answer r s).port]; rfl⟩
  · exact ⟨_, _, rfl⟩

theorem State.handleBody_sameAssembler (body : List Byte) : (s.handleBody body).port.SameAssembler s.port := by
  fun_cases State.handleBody s body
  · exact State.handle_sameAssembler ..
  · exact ⟨_, _, rfl⟩
  · exact ⟨_, _, rfl⟩
  · exact ⟨_, _, rfl⟩

theorem State.takeRequest_sameAssembler : s.takeRequest.port.SameAssembler s.port := by
  fun_cases State.takeRequest s
  · exact ⟨_, _, rfl⟩
  · exact ⟨_, _, rfl⟩
  · next body rest _ =>
    obtain ⟨handling, buffer, hport⟩ := (s.setBuffer rest).handleBody_sameAssembler body
    exact ⟨_, _, hport⟩

theorem State.offer_sameAssembler (body : List Byte) : (s.offer body).port.SameAssembler s.port := by
  unfold State.offer
  split
  · obtain ⟨handling, buffer, hport⟩ := (s.setBuffer (s.port.buffer ++ [body])).takeRequest_sameAssembler
    exact ⟨_, _, hport⟩
  · exact ⟨_, _, rfl⟩

end

theorem State.restartGap_hunting {s : State} (h : s.port.assembler = .hunting) :
    s.restartGap = s.setPort { s.port with gapEnd := none } := by
  rw [State.restartGap, if_pos h]

theorem State.restartGap_within {s : State} (h : s.port.assembler ≠ .hunting) :
    s.restartGap = s.setPort { s.port with gapEnd := some (s.ticks + 2000 * 8) } := by
  rw [State.restartGap, if_neg h]

/-- After a whole frame the gap timer stays stopped. -/
theorem State.restartGap_offer {s : State} (hhunting : s.port.assembler = .hunting) (hgap : s.port.gapEnd = none)
    (body : List Byte) : (s.offer body).restartGap = s.offer body := by
  obtain ⟨handling, buffer, hport⟩ := s.offer_sameAssembler body
  rw [State.restartGap_hunting (by rw [hport]; exact hhunting)]
  have hstopped : (s.offer body).port.gapEnd = none := by rw [hport]; exact hgap
  rw [← hstopped]; rfl

/-! ### A character on RXD (R173, R174, R183) -/

theorem receiveByte_deaf {s : State} (h : s.port.deaf = true) (b : Byte) : receiveByte b .ends s = s.rxdIdle := by
  simp [receiveByte, h]

theorem gapTimerExpiry_running {s : State} {d : Nat} (hgap : s.port.gapEnd = some d) (hidle : s.pins.rxdBusy = false) :
    gapTimerExpiry s = (s.advance d).discard .truncated := by
  simp [gapTimerExpiry, hgap, hidle]

theorem gapTimerExpiry_held {s : State} (h : s.port.gapEnd = none ∨ s.pins.rxdBusy = true) : gapTimerExpiry s = s := by
  unfold gapTimerExpiry
  split
  · rfl
  · next hgap => exact if_pos (h.resolve_left (by simp [hgap]))

/-- The part as the end of a character leaves it, that began after release. -/
def State.heard (s : State) : State := { s with pins := { s.pins with rxdBusy := false } }

theorem receiveByte_heard {s : State} (hreset : s.assertedReset = none) (hhears : s.port.deaf = false) (b : Byte) :
    receiveByte b .ends s = (s.heard.assemble b).restartGap := by
  have hport : { s.port with deaf := false } = s.port := by rw [← hhears]
  have hidle : s.rxdIdle = s.heard := by rw [State.rxdIdle, hport]; rfl
  simp [receiveByte, hreset, hhears, hidle]

/-! ### The assembler, state by state (R173) -/

section
variable {s : State} {b : Byte}

theorem State.assemble_hunting_start (h : s.port.assembler = .hunting) (hb : b = 0xC3#8) :
    s.assemble b = s.setPort { s.port with assembler := .length } := by
  simp only [State.assemble, h, if_pos hb]

theorem State.assemble_hunting_other (h : s.port.assembler = .hunting) (hb : b ≠ 0xC3#8) : s.assemble b = s := by
  simp only [State.assemble, h, if_neg hb]

theorem State.assemble_length_good (h : s.port.assembler = .length) (hlow : 2 ≤ b.toNat) (hhigh : b.toNat ≤ 64) :
    s.assemble b = s.setPort { s.port with assembler := .body, length := b.toNat, body := [], check := crcOf [b] } := by
  simp only [State.assemble, h, State.lengthByte, if_pos (And.intro hlow hhigh)]; rfl

theorem State.assemble_length_bad (h : s.port.assembler = .length) (hb : b.toNat < 2 ∨ 64 < b.toNat) :
    s.assemble b = s.discard .length := by
  simp only [State.assemble, h, State.lengthByte]
  exact if_neg (by omega)

theorem State.assemble_body (h : s.port.assembler = .body) : s.assemble b = s.setPort { s.port with
    body := s.port.body ++ [b], check := crcByte s.port.check b
    assembler := if (s.port.body ++ [b]).length < s.port.length then .body else .checkHigh } := by
  have hmore : (s.port.body ++ [b]).length < s.port.length ↔ ¬ s.port.length ≤ s.port.body.length + 1 := by
    rw [List.length_append, List.length_singleton, not_le]
  rw [if_congr hmore rfl rfl, ite_not]
  simp only [State.assemble, h, State.bodyByte]

theorem State.assemble_checkHigh (h : s.port.assembler = .checkHigh) :
    s.assemble b = s.setPort { s.port with checkHigh := b, assembler := .checkLow } := by
  simp only [State.assemble, h]

theorem State.assemble_checkLow_bad (h : s.port.assembler = .checkLow) (hb : s.port.checkHigh ++ b ≠ s.port.check) :
    s.assemble b = s.discard .check := by
  simp only [State.assemble, h, State.lastByte]
  exact if_neg hb

theorem State.assemble_checkLow_good (h : s.port.assembler = .checkLow) (hb : s.port.checkHigh ++ b = s.port.check) :
    s.assemble b = (s.setPort s.port.hunt).offer s.port.body := by
  simp only [State.assemble, h, State.lastByte]
  exact if_pos hb

end

/-- The last byte of a frame that passes its check offers the body to a port that hunts again. -/
theorem receiveByte_frame {s : State} {b : Byte} (hreset : s.assertedReset = none) (hhears : s.port.deaf = false)
    (hlast : s.port.assembler = .checkLow) (hcheck : s.port.checkHigh ++ b = s.port.check) :
    receiveByte b .ends s = (s.heard.setPort s.port.hunt).offer s.port.body := by
  rw [receiveByte_heard hreset hhears, State.assemble_checkLow_good (s := s.heard) hlast hcheck]
  exact State.restartGap_offer rfl rfl _

/-- Settles O11: the timer and the characters that are not received, then each state of the assembler. -/
theorem assemblerTakesByteOrTimesOut : Obligations.AssemblerTakesByteOrTimesOut := by
  refine ⟨fun s => ⟨fun _ => rfl, fun d hgap hidle => congrArg Host.Outcome.next (gapTimerExpiry_running hgap hidle),
      fun h => congrArg Host.Outcome.next (gapTimerExpiry_held h),
      fun b h => congrArg Host.Outcome.next (receiveByte_deaf h b)⟩,
    fun _ _ _ _ => rfl, fun b s hreset hhears => ?_⟩
  have hheard (t : State) (ht : (s.heard.assemble b).restartGap = t) : exec (.receiveByte b .ends) s = .next t :=
    congrArg Host.Outcome.next ((receiveByte_heard hreset hhears b).trans ht)
  refine ⟨_, rfl, fun h hb => hheard _ ?start, fun h hb => hheard _ ?noise, fun h hlow hhigh => hheard _ ?length,
    fun h hb => hheard _ ?badLength, fun h => hheard _ ?body, fun h => hheard _ ?checkHigh, fun h hb => hheard _ ?badCheck,
    fun h hb => ⟨s.heard.setPort s.port.hunt, rfl, ?_⟩⟩
  case start => rw [State.assemble_hunting_start (s := s.heard) h hb]; exact State.restartGap_within nofun
  case noise => rw [State.assemble_hunting_other (s := s.heard) h hb]; exact State.restartGap_hunting h
  case length => rw [State.assemble_length_good (s := s.heard) h hlow hhigh]; exact State.restartGap_within nofun
  case badLength => rw [State.assemble_length_bad (s := s.heard) h hb]; exact State.restartGap_hunting rfl
  case body =>
    rw [State.assemble_body (s := s.heard) h]
    exact State.restartGap_within (by show ite _ _ _ ≠ _; split <;> nofun)
  case checkHigh => rw [State.assemble_checkHigh (s := s.heard) h]; exact State.restartGap_within nofun
  case badCheck => rw [State.assemble_checkLow_bad (s := s.heard) h hb]; exact State.restartGap_hunting rfl
  have hframe : exec (.receiveByte b .ends) s = .next ((s.heard.setPort s.port.hunt).offer s.port.body) :=
    congrArg Host.Outcome.next (receiveByte_frame hreset hhears h hb)
  rw [hframe]
  refine ⟨fun c q r hc hformed hbody => ?request, fun h hsent => ?busy,
    fun code q f status hfree hempty hbody hunread => ?unread⟩
  case request =>
    rw [exec_request hc, State.request_eq_offer (s := s.heard.setPort s.port.hunt) hreset (wellFormed_eq hc ▸ hformed), hbody]
  case busy =>
    have hbusy : (s.heard.setPort s.port.hunt).port.handling.isSome = true := Option.isSome_iff_exists.mpr ⟨h, hsent⟩
    exact ⟨fun hroom => congrArg Host.Outcome.next (State.offer_busy hbusy hroom),
      fun hfull => congrArg Host.Outcome.next (State.offer_full hfull)⟩
  case unread =>
    rw [hbody]
    exact congrArg Host.Outcome.next ((State.offer_free (s := s.heard.setPort s.port.hunt) hfree hempty).trans
      (State.handleBody_unread hunread))

end Sys2Proof.Machine
end
